-- ==== Sys2Proof/Word.lean ====
section
/-! DEFINITION. The word types of ATT-CODEC (spec/00_scope.md R10, R11). -/

namespace Sys2Proof

/-- u8, the unit of every byte string (R11). -/
abbrev Byte := BitVec 8

/-- A word of the host register port (R60), and a u32 of the wire formats. -/
abbrev Word := BitVec 32

/-- A command word (R80), and a u16 of the wire formats. -/
abbrev Half := BitVec 16

/-- A byte address of the host register port, 0x0000 to 0xFFFF, an offset from `ATT_BASE` (R60, R71). -/
abbrev PortAddr := BitVec 16

end Sys2Proof
end

