-- ==== Sys2Proof/Syntax.lean ====
section
/-! DEFINITION. The commands of ATT-CODEC: one constructor per row of spec/opcode_table.json (R84). -/

namespace Sys2Proof

/-- Protocol numbers of format `P` (R82): 0 NDTP, 1 EGTS, 2 Navtelecom, 3 Wialon. -/
inductive Protocol where
  | ndtp
  | egts
  | ntc
  | wln
deriving DecidableEq, Repr

/-- A command. `b` is the byte of format `B`, `p` the protocol of format `P`, `k` the three-bit template field of
format `K` (R80, R81); `k` = 6 and 7 are illegal (R83), which is `Instr.wellFormed`'s check. -/
inductive Instr where
  /-- `NOP` (R262). -/
  | nop
  /-- `SESS.NEW p` (R261). -/
  | sessNew (p : Protocol)
  /-- `SEND p` (R260, R263 to R266). -/
  | send (p : Protocol)
  /-- `CRC8.INIT` (R105). -/
  | crc8Init
  /-- `CRC8.UPD b` (R106). -/
  | crc8Upd (b : Byte)
  /-- `CRC16C.INIT` (R107). -/
  | crc16cInit
  /-- `CRC16C.UPD b` (R108). -/
  | crc16cUpd (b : Byte)
  /-- `CRC16M.INIT` (R109). -/
  | crc16mInit
  /-- `CRC16M.UPD b` (R110). -/
  | crc16mUpd (b : Byte)
  /-- `XOR.INIT` (R111). -/
  | xorInit
  /-- `XOR.UPD b` (R112). -/
  | xorUpd (b : Byte)
  /-- `PACK.NDTPA` (R165). -/
  | packNdtpa
  /-- `PACK.NDTPN` (R166). -/
  | packNdtpn
  /-- `PACK.EGTS` (R185). -/
  | packEgts
  /-- `PACK.NTCA` (R205). -/
  | packNtca
  /-- `PACK.NTCD` (R206). -/
  | packNtcd
  /-- `PACK.WLNA` (R224). -/
  | packWlna
  /-- `PACK.WLND` (R225). -/
  | packWlnd
  /-- `ACK.CHK k` (R242). -/
  | ackChk (k : BitVec 3)
deriving DecidableEq, Repr

end Sys2Proof
end

