-- ==== Sys2Proof/WellFormed.lean ====
section
/-! DEFINITION. Which commands are legal (R80, R83): every operand of the syntax but template numbers 6 and 7. -/

namespace Sys2Proof

/-- The check on a template number (R80, format `K`: k ≤ 5). -/
def templateOk (k : BitVec 3) : Bool := decide (k.toNat ≤ 5)

/-- A command whose word R84's decoder accepts. -/
def Instr.wellFormed : Instr → Bool
  | .ackChk k => templateOk k
  | .nop | .sessNew _ | .send _ => true
  | .crc8Init | .crc8Upd _ | .crc16cInit | .crc16cUpd _ | .crc16mInit | .crc16mUpd _ | .xorInit | .xorUpd _ => true
  | .packNdtpa | .packNdtpn | .packEgts | .packNtca | .packNtcd | .packWlna | .packWlnd => true

end Sys2Proof
end

