-- ==== Sys2Proof/Decode.lean ====
section
/-! DEFINITION. The decoder of a command word, R84's procedure line by line, then the encoder. -/

namespace Sys2Proof

/-- Why a word is illegal: one constructor per `finish(E_ILLEGAL)` line of R84. -/
inductive Illegal where
  /-- The opcode is not in R84's table. -/
  | opcode
  /-- A format `Z` word with `OPD` ≠ 0. -/
  | operandZ
  /-- A format `P` word with `OPD[7:2]` ≠ 0. -/
  | operandP
  /-- A format `K` word with `OPD[7:3]` ≠ 0 or `OPD[2:0]` > 5. -/
  | operandK
deriving DecidableEq, Repr

/-- `OP = cmd[15:8]` (R80). -/
def wordOp (w : Half) : Byte := w.extractLsb' 8 8

/-- `OPD = cmd[7:0]` (R80). -/
def wordOpd (w : Half) : Byte := w.extractLsb' 0 8

/-- The protocol of the two bits `OPD[1:0]` (R81, R82). -/
def protocolOf (p : BitVec 2) : Protocol :=
  if p = 0 then .ndtp else if p = 1 then .egts else if p = 2 then .ntc else .wln

/-- Format `Z`: the operand is exactly 0x00 (R80). -/
def decodeZ (opd : Byte) (i : Instr) : Except Illegal Instr :=
  if opd = 0 then .ok i else .error .operandZ

/-- Format `P`: `OPD[7:2]` = 0 (R80). -/
def decodeP (opd : Byte) (f : Protocol → Instr) : Except Illegal Instr :=
  if opd.extractLsb' 2 6 = 0 then .ok (f (protocolOf (opd.extractLsb' 0 2))) else .error .operandP

/-- Format `K`: `OPD[7:3]` = 0 and k ≤ 5 (R80). -/
def decodeK (opd : Byte) (f : BitVec 3 → Instr) : Except Illegal Instr :=
  if opd.extractLsb' 3 5 = 0 ∧ templateOk (opd.extractLsb' 0 3) = true then .ok (f (opd.extractLsb' 0 3))
  else .error .operandK

/-- R84: the command of a word, or why it is illegal. Total on every word. -/
def decode (w : Half) : Except Illegal Instr :=
  match (wordOp w).toNat with
  | 0x00 => decodeZ (wordOpd w) .nop
  | 0x01 => decodeP (wordOpd w) .sessNew
  | 0x02 => decodeP (wordOpd w) .send
  | 0x10 => decodeZ (wordOpd w) .crc8Init
  | 0x11 => .ok (.crc8Upd (wordOpd w))
  | 0x12 => decodeZ (wordOpd w) .crc16cInit
  | 0x13 => .ok (.crc16cUpd (wordOpd w))
  | 0x14 => decodeZ (wordOpd w) .crc16mInit
  | 0x15 => .ok (.crc16mUpd (wordOpd w))
  | 0x16 => decodeZ (wordOpd w) .xorInit
  | 0x17 => .ok (.xorUpd (wordOpd w))
  | 0x20 => decodeZ (wordOpd w) .packNdtpa
  | 0x21 => decodeZ (wordOpd w) .packNdtpn
  | 0x22 => decodeZ (wordOpd w) .packEgts
  | 0x23 => decodeZ (wordOpd w) .packNtca
  | 0x24 => decodeZ (wordOpd w) .packNtcd
  | 0x25 => decodeZ (wordOpd w) .packWlna
  | 0x26 => decodeZ (wordOpd w) .packWlnd
  | 0x30 => decodeK (wordOpd w) .ackChk
  | _ => .error .opcode

/-- The protocol number of R82. -/
def protocolBits : Protocol → BitVec 2
  | .ndtp => 0
  | .egts => 1
  | .ntc => 2
  | .wln => 3

/-- The opcode of R84's table. -/
def opcodeOf : Instr → Byte
  | .nop => 0x00
  | .sessNew _ => 0x01
  | .send _ => 0x02
  | .crc8Init => 0x10
  | .crc8Upd _ => 0x11
  | .crc16cInit => 0x12
  | .crc16cUpd _ => 0x13
  | .crc16mInit => 0x14
  | .crc16mUpd _ => 0x15
  | .xorInit => 0x16
  | .xorUpd _ => 0x17
  | .packNdtpa => 0x20
  | .packNdtpn => 0x21
  | .packEgts => 0x22
  | .packNtca => 0x23
  | .packNtcd => 0x24
  | .packWlna => 0x25
  | .packWlnd => 0x26
  | .ackChk _ => 0x30

/-- The operand byte of the command's format (R80, R81). -/
def operandOf : Instr → Byte
  | .sessNew p | .send p => (protocolBits p).setWidth 8
  | .crc8Upd b | .crc16cUpd b | .crc16mUpd b | .xorUpd b => b
  | .ackChk k => k.setWidth 8
  | .nop | .crc8Init | .crc16cInit | .crc16mInit | .xorInit => 0
  | .packNdtpa | .packNdtpn | .packEgts | .packNtca | .packNtcd | .packWlna | .packWlnd => 0

/-- R86: "The word is `OP << 8 | operand`". -/
def encode (i : Instr) : Half := opcodeOf i ++ operandOf i

/-- The decoder on the opcode table's numbering: a command is one 16-bit word, bit 0 its least significant (R80). -/
def decodeTableWord (nbits w : Nat) : Option Instr :=
  match decode (BitVec.ofNat 16 (w % 2 ^ nbits)) with
  | .ok i => some i
  | .error _ => none

end Sys2Proof
end

