-- ==== Sys2Proof/Config.lean ====
section
/-! DEFINITION. What is fixed when the block is built (R8, R9, R75): the literals the source gives, and the parameters
it does not give: the buffer capacities and the protocol parameters. The parameters are two OPAQUE constants,
`Config.capacities` and `Config.params`: no proof can learn a value of them, so what is proved holds for every choice. -/

namespace Sys2Proof

/-- `FRAME_CAP` and `RX_CAP` (R8, D24, D48), within what the rest of the spec leaves them (log entry 8). The defaults are
the values this spec uses. -/
structure Capacities where
  frameCap : Nat := 128
  rxCap : Nat := 256
  /-- The largest frame has 91 bytes (R8). -/
  frameFits : 91 ≤ frameCap := by decide
  /-- Each of the windows of `FRAME`, `TX0` and `TX1` has room for 128 bytes (R22). -/
  frameWindow : frameCap ≤ 128 := by decide
  /-- The longest template whose bytes the source gives has 8 bytes (R9, R240). -/
  rxFits : 8 ≤ rxCap := by decide
  /-- The window of `RX`, 4·`RX_CAP` bytes from 0x1000 on, ends within the port's 0x10000 addresses (R22, R60). -/
  rxWindow : rxCap ≤ 15360 := by decide
deriving DecidableEq, Repr, Inhabited

/-- The capacities of the block as built (R8): free values of the model (log entry 8). -/
opaque Config.capacities : Capacities

/-- `FRAME_CAP`. -/
def Config.frameCap : Nat := Config.capacities.frameCap

/-- `RX_CAP`. -/
def Config.rxCap : Nat := Config.capacities.rxCap

/-- The width of `RX_LEN`: ceil(log2(`RX_CAP` + 1)) bits (R22). -/
def Config.rxLenBits : Nat := Nat.clog 2 (Config.rxCap + 1)

theorem Config.le_frameCap : 91 ≤ Config.frameCap := Config.capacities.frameFits
theorem Config.frameCap_le : Config.frameCap ≤ 128 := Config.capacities.frameWindow
theorem Config.le_rxCap : 8 ≤ Config.rxCap := Config.capacities.rxFits
theorem Config.rxCap_le : Config.rxCap ≤ 15360 := Config.capacities.rxWindow

/-- `RX_LEN` can hold every length of a response. -/
theorem Config.rxCap_lt : Config.rxCap < 2 ^ Config.rxLenBits := Nat.le_pow_clog (by decide) _

/-- An acknowledgement template: a non-empty byte string of at most `RX_CAP` bytes (R240). The field defaults only
show that the type has a member. -/
structure Template where
  bytes : List Byte := [0]
  nonempty : bytes ≠ [] := by decide
  fits : bytes.length ≤ Config.rxCap := by exact Nat.le_trans (by decide) Config.le_rxCap
deriving DecidableEq, Repr, Inhabited

/-- R8's constraint on two fields of the Navtelecom data body, `a` and `b` with `n` and `k` bytes: no overlap. -/
def fieldsApart (a n b k : Nat) : Bool := a + n ≤ b || b + k ≤ a

/-- R8's constraints on the four offsets of the Navtelecom data body: the two timestamp blocks (6 bytes) and the two
floats (4 bytes) do not overlap each other or bytes 0..8, and lie inside the 75-byte body. -/
def ntcLayoutOk (ts1 ts2 lat lon : Nat) : Bool :=
  (9 ≤ ts1 && ts1 + 6 ≤ 75) && (9 ≤ ts2 && ts2 + 6 ≤ 75) && (9 ≤ lat && lat + 4 ≤ 75) && (9 ≤ lon && lon + 4 ≤ 75) &&
  fieldsApart ts1 6 ts2 6 && fieldsApart ts1 6 lat 4 && fieldsApart ts1 6 lon 4 &&
  fieldsApart ts2 6 lat 4 && fieldsApart ts2 6 lon 4 && fieldsApart lat 4 lon 4

/-- `NTC_TS1_OFF`, `NTC_TS2_OFF`, `NTC_LAT_OFF`, `NTC_LON_OFF` (R8, D20). The defaults are the values this spec uses. -/
structure NtcLayout where
  ts1 : Nat := 9
  ts2 : Nat := 15
  lat : Nat := 21
  lon : Nat := 25
  ok : ntcLayoutOk ts1 ts2 lat lon = true := by decide
deriving DecidableEq, Repr, Inhabited

/-- The protocol parameters of R8 that have no value in the source: OPEN, or with a placeholder that is for test
vectors only. -/
structure Params where
  ndtpSig : Vector Byte 2
  ndtpAuthSvc : Half
  ndtpAuthType : Half
  ndtpAuthNphf : Half
  ndtpNavSvc : Half
  ndtpNavType : Half
  ndtpNavNphf : Half
  ndtpAuthCaps : Half
  ndtpAuthMss : Half
  ndtpNack : Template
  egtsAck : Template
  ntcSig : Vector Byte 4
  ntcAuthTag : Vector Byte 4
  ntcDataTag : Vector Byte 3
  ntcAuthOk : Template
  ntcDataOk : Template
  ntcLayout : NtcLayout
deriving DecidableEq, Repr, Inhabited

/-- The parameters of the block as built (R8, R240, R334): free values of the model (log entry 3). -/
opaque Config.params : Params

/-- `WLN_AUTH_OK`, `#AL#1\r\n` (R9, R222). -/
def Config.wlnAuthOk : List Byte := [0x23, 0x41, 0x4C, 0x23, 0x31, 0x0D, 0x0A]

/-- `WLN_DATA_OK`, `#ASD#1\r\n` (R9, R222). -/
def Config.wlnDataOk : List Byte := [0x23, 0x41, 0x53, 0x44, 0x23, 0x31, 0x0D, 0x0A]

end Sys2Proof
end

