-- ==== Sys2Proof/Machine/State.lean ====
section
/-! DEFINITION. The state of ATT-CODEC (spec/10_state.md), the events of its environment, and the state after reset
(R41, R330). -/

namespace Sys2Proof.Machine

/-- `STATUS.CODE` values the block writes (R300); 5 to 15 are never written. -/
inductive Code where
  | ok
  | transport
  | validation
  | range
  | illegal
deriving DecidableEq, Repr

/-- The seven frames a `SEND` can be transferring: the rows of R243's policy table. -/
inductive Leg where
  | ndtpAuth
  | ndtpNav
  | egts
  | ntcAuth
  | ntcData
  | wlnAuth
  | wlnData
deriving DecidableEq, Repr

/-- The position inside a running `SEND` (R39). -/
inductive SendPos where
  /-- No `SEND` in progress: `BUSY` = 0. -/
  | idle
  /-- Frame `f` was handed to the transport; its write answer is awaited. -/
  | awaitWrite (leg : Leg) (f : List Byte)
  /-- The frame was written and logged; the answer of the blocking read is awaited. -/
  | awaitRead (leg : Leg)
deriving DecidableEq, Repr

/-- A response of the transport: a byte string of at most `RX_CAP` bytes (R14). -/
structure Response where
  bytes : List Byte
  fits : bytes.length ≤ Config.rxCap
deriving DecidableEq, Repr

/-- The answer to a `TransportWrite` (R14). -/
inductive WriteAnswer where
  | ok (n : Nat)
  | err
deriving DecidableEq, Repr

/-- The answer to a `TransportRead` (R14). -/
inductive ReadAnswer where
  | ok (r : Response)
  | err
deriving DecidableEq, Repr

/-- One act of the block's environment (R6): the host's accesses (R60), the transport's answers (R14), power-on reset
(R331). The spec leaves each of them free; they are inputs (log entry 1). -/
inductive Event where
  | hostRead (a : PortAddr)
  | hostWrite (a : PortAddr) (v : Word)
  | writeAnswer (w : WriteAnswer)
  | readAnswer (r : ReadAnswer)
  | powerReset
deriving DecidableEq, Repr

/-- The bytes of the buffers at their host-port addresses (R22). -/
abbrev Memory := List Host.Cell

/-- The canonical form of a memory: addresses strictly rising, no cell equal to what an unlisted address reads as,
which is 0, the reset contents of every buffer byte (R41). -/
abbrev Memory.wf (m : Memory) : Prop :=
  m.Pairwise (fun c d => c.1 < d.1) ∧ ∀ c ∈ m, c.2 ≠ 0

structure State where
  /-- `STATUS.CODE` (R22, R38). -/
  code : Code
  /-- `STATUS.OVR` (R22, R64). -/
  ovr : Bool
  /-- `STATUS.ACK_MATCH` (R22, R242). -/
  ackMatch : Bool
  /-- `STATUS.DIAG_AUTH` (R22, R263). -/
  diagAuth : Bool
  /-- `STATUS.DIAG_NAV` (R22, R263). -/
  diagNav : Bool
  /-- `STATUS.TXCOUNT` (R22, R37). -/
  txCount : BitVec 2
  /-- `DEVID_LO` (R22, R23). -/
  devidLo : Word
  /-- `DEVID_HI` (R22, R23). -/
  devidHi : Word
  /-- `TIME` (R24). -/
  time : Word
  /-- `LAT`, two's complement (R25). -/
  lat : Word
  /-- `LON`, two's complement (R25). -/
  lon : Word
  /-- `CRC8_ACC` (R27). -/
  crc8Acc : Byte
  /-- `CRC16C_ACC` (R27). -/
  crc16cAcc : Half
  /-- `CRC16M_ACC` (R27). -/
  crc16mAcc : Half
  /-- `XOR_ACC` (R27). -/
  xorAcc : Byte
  /-- `NDTP_PID` (R30). -/
  ndtpPid : Half
  /-- `NDTP_AUTH` (R30). -/
  ndtpAuth : Bool
  /-- `EGTS_PID` (R31). -/
  egtsPid : Half
  /-- `EGTS_RN` (R31). -/
  egtsRn : Half
  /-- `NTC_RN` (R32). -/
  ntcRn : Word
  /-- `NTC_AUTH` (R32). -/
  ntcAuth : Bool
  /-- `WLN_AUTH` (R33). -/
  wlnAuth : Bool
  /-- `FRAME_LEN` (R35). -/
  frameLen : BitVec 8
  /-- `RX_LEN`, as wide as `RX_CAP` needs (R22, R36). -/
  rxLen : BitVec Config.rxLenBits
  /-- `TX0_LEN` (R37). -/
  tx0Len : BitVec 8
  /-- `TX1_LEN` (R37). -/
  tx1Len : BitVec 8
  /-- The bytes of `FRAME`, `TX0`, `TX1` and `RX` (R35 to R37). -/
  mem : Memory
  /-- `STATUS.BUSY` and the position inside `SEND` (R39). -/
  pos : SendPos
  /-- The model's own: the word the last `HostRead` answered with (log entry 2). -/
  readData : Word
  /-- The model's own: what the environment does next, first event first (log entry 1). -/
  events : List Event
deriving DecidableEq, Repr

/-- The spec gives no behaviour that stops the block: every word, register value and transport answer has a stated
effect (R85, R300, R307), so there is no fault. -/
inductive Fault where
deriving DecidableEq, Repr

/-- Why an instruction has no meaning in the model. -/
inductive Refusal where
  /-- Raised by an arm of `exec` whose instruction has no meaning yet; safe. No arm raises it now. -/
  | notModelled (mnemonic : String)
deriving DecidableEq, Repr

/-- After power-on reset (R41, R330), with nothing yet done by the environment. -/
def State.reset : State where
  code := .ok
  ovr := false
  ackMatch := false
  diagAuth := false
  diagNav := false
  txCount := 0
  devidLo := 0
  devidHi := 0
  time := 0
  lat := 0
  lon := 0
  crc8Acc := 0xFF
  crc16cAcc := 0xFFFF
  crc16mAcc := 0xFFFF
  xorAcc := 0x00
  ndtpPid := 0
  ndtpAuth := false
  egtsPid := 0
  egtsRn := 0
  ntcRn := 0
  ntcAuth := false
  wlnAuth := false
  frameLen := 0
  rxLen := 0
  tx0Len := 0
  tx1Len := 0
  mem := []
  pos := .idle
  readData := 0
  events := []

end Sys2Proof.Machine
end

