-- ==== Sys2Proof/Machine/Operands.lean ====
section
/-! DEFINITION. The operand forms of the commands: serialisation (R12), the field encoders of spec/41_fields.md
(R131 to R141), the narrowings of the packet registers, and the templates (R240). All arithmetic is exact. -/

namespace Sys2Proof.Machine

/-! ### Serialisation primitives (R12) -/

/-- `le16(v)`: least significant byte first. -/
def le16 (v : Half) : List Byte := [v.extractLsb' 0 8, v.extractLsb' 8 8]

/-- `le32(v)`: least significant byte first. -/
def le32 (v : Word) : List Byte :=
  [v.extractLsb' 0 8, v.extractLsb' 8 8, v.extractLsb' 16 8, v.extractLsb' 24 8]

/-- `be16(v)`: most significant byte first. -/
def be16 (v : Half) : List Byte := [v.extractLsb' 8 8, v.extractLsb' 0 8]

/-- `be32(v)`: most significant byte first. -/
def be32 (v : Word) : List Byte :=
  [v.extractLsb' 24 8, v.extractLsb' 16 8, v.extractLsb' 8 8, v.extractLsb' 0 8]

/-- `zeros(n)` (R11). -/
def zeros (n : Nat) : List Byte := List.replicate n 0

/-- `ascii(...)`: the ASCII codes of the characters (R11). -/
def ascii (cs : List Char) : List Byte := cs.map fun c => BitVec.ofNat 8 c.toNat

/-! ### Decimal text (R131) -/

/-- The ASCII digit of `d` < 10. -/
def digit (d : Nat) : Byte := BitVec.ofNat 8 (0x30 + d)

/-- The decimal digits of `n` put before `acc`, at most `fuel` of them. -/
def decDigits (fuel n : Nat) (acc : List Byte) : List Byte :=
  match fuel with
  | 0 => acc
  | fuel + 1 => if n < 10 then digit n :: acc else decDigits fuel (n / 10) (digit (n % 10) :: acc)

/-- `dec(n)`: the shortest decimal text of `n` (its digits are never more than `log2 n + 1`). -/
def dec (n : Nat) : List Byte := decDigits (n.log2 + 1) n []

/-- `dec0(n, w)`: `dec(n)` left-padded with `'0'` to `w` characters. -/
def dec0 (n w : Nat) : List Byte := List.replicate (w - (dec n).length) (digit 0) ++ dec n

/-! ### Calendar (R132 to R135) -/

/-- The result of `civil(t)`: UTC date and time. -/
structure Civil where
  year : Nat
  month : Nat
  day : Nat
  hour : Nat
  minute : Nat
  second : Nat
deriving DecidableEq, Repr

/-- R132: days since 1970-01-01 to the proleptic Gregorian date, seconds of the day to the time. -/
def civil (t : Word) : Civil :=
  let days := t.toNat / 86400
  let sod := t.toNat % 86400
  let z := days + 719468
  let era := z / 146097
  let doe := z - era * 146097
  let yoe := (doe - doe / 1460 + doe / 36524 - doe / 146096) / 365
  let doy := doe - (365 * yoe + yoe / 4 - yoe / 100)
  let mp := (5 * doy + 2) / 153
  let month := if mp < 10 then mp + 3 else mp - 9
  { year := yoe + era * 400 + (if month ≤ 2 then 1 else 0)
    month := month
    day := doy - (153 * mp + 2) / 5 + 1
    hour := sod / 3600
    minute := sod % 3600 / 60
    second := sod % 60 }

/-- R133: the 6-byte Navtelecom time block, plain binary, the year minus 2000 modulo 256. -/
def ntcTs (t : Word) : List Byte :=
  [BitVec.ofNat 8 (civil t).hour, BitVec.ofNat 8 (civil t).minute, BitVec.ofNat 8 (civil t).second,
   BitVec.ofNat 8 (civil t).day, BitVec.ofNat 8 (civil t).month, BitVec.ofInt 8 ((civil t).year - 2000)]

/-- R134: `ddmmyy`. -/
def wlnDate (t : Word) : List Byte :=
  dec0 (civil t).day 2 ++ dec0 (civil t).month 2 ++ dec0 ((civil t).year % 100) 2

/-- R134: `hhmmss`. -/
def wlnTime (t : Word) : List Byte :=
  dec0 (civil t).hour 2 ++ dec0 (civil t).minute 2 ++ dec0 (civil t).second 2

/-- R135: seconds since 2010-01-01T00:00:00Z modulo 2^32. -/
def egtsTime (t : Word) : Word := t - 1262304000

/-! ### Coordinates (R136 to R139) -/

/-- R136: the magnitude of a coordinate register, `|v|` as a u32. -/
def magnitude (v : Word) : Word := BitVec.ofNat 32 v.toInt.natAbs

/-- R137: `(|v| · 0xFFFFFFFF) div d`. -/
def egtsFrac (v : Word) (d : Nat) : Word := BitVec.ofNat 32 (v.toInt.natAbs * 0xFFFFFFFF / d)

/-- `num / den` rounded to the nearest integer, ties to even (R138). -/
def roundHalfEven (num den : Nat) : Nat :=
  let q := num / den
  let r := num % den
  if 2 * r < den then q
  else if den < 2 * r then q + 1
  else if q % 2 = 0 then q else q + 1

/-- R138's exponent, biased by 24: the `k` with 2^k ≤ n·2^24 / 10^7 < 2^(k+1), so e = k - 24. -/
def f32Exponent (n : Nat) : Nat := (n * 2 ^ 24 / 10 ^ 7).log2

/-- R138's significand of the magnitude `n`·10^-7 ≥ 10^-7 before renormalisation: `a · 2^(23 - e)` rounded half to even. -/
def f32Significand (n : Nat) : Nat := roundHalfEven (n * 2 ^ (47 - f32Exponent n)) (10 ^ 7)

/-- R138: the binary32 bits of `v`·10^-7, round to nearest, ties to even. -/
def f32 (v : Word) : Word :=
  let n := v.toInt.natAbs
  let m := f32Significand n
  let e := f32Exponent n
  if n = 0 then 0
  else if m = 2 ^ 24 then BitVec.ofBool v.msb ++ BitVec.ofNat 8 (e + 1 + 103) ++ (0 : BitVec 23)
  else BitVec.ofBool v.msb ++ BitVec.ofNat 8 (e + 103) ++ BitVec.ofNat 23 (m - 2 ^ 23)

/-- R139: `|v|`·100 degrees with exactly 4 fractional digits, rounded half up, left-padded with `'0'` to `w`. -/
def wfield (v : Word) (w : Nat) : List Byte :=
  let q := (v.toInt.natAbs + 5) / 10
  let s := dec (q / 10000) ++ ascii ['.'] ++ dec0 (q % 10000) 4
  List.replicate (w - s.length) (digit 0) ++ s

/-! ### The device id (R23, R141) -/

/-- `DEVID` as a number: `DEVID_HI · 2^32 + DEVID_LO`. -/
def devid (s : State) : Nat := s.devidHi.toNat * 2 ^ 32 + s.devidLo.toNat

/-- `dev32`: the 32-bit truncation, which is `DEVID_LO`. -/
def dev32 (s : State) : Word := s.devidLo

/-- `dev15`: 15 zero-padded decimal digits, used only under `devid15Ok`. -/
def dev15 (s : State) : List Byte := dec0 (devid s) 15

/-- `devdec`: the full id in decimal, unpadded. -/
def devdec (s : State) : List Byte := dec (devid s)

/-! ### Templates (R83, R240) -/

/-- Template number `k`; none for the illegal numbers 6 and 7. -/
def templateOf (P : Params) (k : BitVec 3) : Option (List Byte) :=
  if k = 0 then some P.ndtpNack.bytes
  else if k = 1 then some P.egtsAck.bytes
  else if k = 2 then some P.ntcAuthOk.bytes
  else if k = 3 then some P.ntcDataOk.bytes
  else if k = 4 then some Config.wlnAuthOk
  else if k = 5 then some Config.wlnDataOk
  else none

end Sys2Proof.Machine
end

