-- ==== Sys2Proof/Machine/Flags.lean ====
section
/-! DEFINITION. The status bits and the predicates that set them: result codes (R300), BUSY (R39), the STATUS word
(R22), range checks (R130), byte-exact equality (R241), sign bits and hemisphere letters (R140, R163, R182). -/

namespace Sys2Proof.Machine

/-- The number of a result code (R300). -/
def codeBits : Code → BitVec 4
  | .ok => 0
  | .transport => 1
  | .validation => 2
  | .range => 3
  | .illegal => 4

/-- `STATUS.BUSY`: 1 from the start of a `SEND` until its `finish` (R39). -/
def busy (s : State) : Bool :=
  match s.pos with
  | .idle => false
  | .awaitWrite _ _ => true
  | .awaitRead _ => true

/-- The `STATUS` word (R22): `CODE` in bits 3..0, then `BUSY`, `OVR`, `ACK_MATCH`, `DIAG_AUTH`, `DIAG_NAV`, and
`TXCOUNT` in bits 10..9; the other bits read 0. -/
def statusWord (s : State) : Word :=
  (0 : BitVec 21) ++ s.txCount ++ BitVec.ofBool s.diagNav ++ BitVec.ofBool s.diagAuth ++ BitVec.ofBool s.ackMatch ++
    BitVec.ofBool s.ovr ++ BitVec.ofBool (busy s) ++ codeBits s.code

/-- `coords_ok` (R130, R25). -/
def coordsOk (s : State) : Bool :=
  decide (-900000000 ≤ s.lat.toInt ∧ s.lat.toInt ≤ 900000000 ∧ -1800000000 ≤ s.lon.toInt ∧ s.lon.toInt ≤ 1800000000)

/-- `devid15_ok` (R130). -/
def devid15Ok (s : State) : Bool := decide (devid s < 10 ^ 15)

/-- `ack_eq(r, T)`: same length and same bytes (R241). -/
def ackEq (r t : List Byte) : Bool := decide (r = t)

/-- The NDTP nav flags byte (R163): bit 7 valid, bits 6 and 5 BOTH from the sign of the longitude (preserved defect (a)). -/
def nflags (lon : Word) : Byte :=
  0x80 ||| (if 0 ≤ lon.toInt then 0x40 else 0) ||| (if 0 ≤ lon.toInt then 0x20 else 0)

/-- The EGTS status-flags byte (R182): bit 6 longitude negative, bit 5 latitude negative, bits 1 and 0 set. -/
def eflags (lat lon : Word) : Byte :=
  (if lon.toInt < 0 then 0x40 else 0) ||| (if lat.toInt < 0 then 0x20 else 0) ||| 0x02 ||| 0x01

/-- The Wialon latitude letter (R140). -/
def latLetter (lat : Word) : List Byte := if 0 ≤ lat.toInt then ascii ['N'] else ascii ['S']

/-- The Wialon longitude letter (R140). -/
def lonLetter (lon : Word) : List Byte := if 0 ≤ lon.toInt then ascii ['E'] else ascii ['W']

end Sys2Proof.Machine
end

