-- ==== Sys2Proof/Machine/Ops.lean ====
section
/-! DEFINITION. The operations over memory, buffers and status that the commands share, and `finish`, the block's
counterpart of taking an exception (R15, R307). -/

namespace Sys2Proof.Machine

/-! ### Memory: the buffers' bytes at their host-port addresses (R22) -/

/-- The byte at address `a`; an unlisted address reads 0 (R41). -/
def Memory.read : Memory → Nat → Byte
  | [], _ => 0
  | c :: m, a => if c.1 = a then c.2 else Memory.read m a

/-- Store byte `b` at address `a`, keeping the canonical form. -/
def Memory.write (m : Memory) (a : Nat) (b : Byte) : Memory :=
  match m with
  | [] => if b = 0 then [] else [(a, b)]
  | c :: m =>
    if a < c.1 then if b = 0 then c :: m else (a, b) :: c :: m
    else if a = c.1 then if b = 0 then m else (a, b) :: m
    else c :: Memory.write m a b

/-- The cells of the bytes `bs`, one 32-bit word apart from address `a` on; zero bytes are not listed. -/
def cellsFrom (a : Nat) : List Byte → Memory
  | [] => []
  | b :: bs => if b = 0 then cellsFrom (a + 4) bs else (a, b) :: cellsFrom (a + 4) bs

/-- Replace the whole contents of the buffer of `cap` bytes at `base`: `bs` first, then zeros (R13 `buf <- s`, R35). -/
def Memory.fill (m : Memory) (base cap : Nat) (bs : List Byte) : Memory :=
  m.filter (fun c => decide (c.1 < base)) ++ cellsFrom base (bs.take cap) ++
    m.filter (fun c => decide (base + 4 * cap ≤ c.1))

/-- The first `n` bytes of the buffer at `base`. -/
def Memory.bytes (m : Memory) (base n : Nat) : List Byte := (List.range n).map fun i => m.read (base + 4 * i)

/-- Addresses of the buffer windows (R22). -/
def frameBase : Nat := 0x400
def tx0Base : Nat := 0x600
def tx1Base : Nat := 0x800
def rxBase : Nat := 0x1000

/-- `a` is the address of a byte of the buffer of `cap` bytes at `base`. -/
def inWindow (base cap a : Nat) : Bool := decide (base ≤ a ∧ a < base + 4 * cap ∧ a % 4 = 0)

/-! ### Ending a command (R15, R307) -/

/-- `finish(code)`: write `STATUS.CODE`, clear `STATUS.BUSY`, change nothing else. Nothing is rolled back (R305). -/
def finish (c : Code) (s : State) : State := { s with code := c, pos := .idle }

/-- R85: an illegal word writes `E_ILLEGAL` and nothing else. -/
def illegalWord (s : State) : State := finish .illegal s

/-- R64: a dropped write changes nothing except `STATUS.OVR <- 1`. -/
def dropWrite (s : State) : State := { s with ovr := true }

/-! ### Buffers (R35 to R37) -/

/-- R35: `FRAME[0..n) <- f; FRAME[n..FRAME_CAP) <- zeros; FRAME_LEN <- n`. -/
def setFrame (f : List Byte) (s : State) : State :=
  { s with mem := s.mem.fill frameBase Config.frameCap f, frameLen := BitVec.ofNat 8 f.length }

/-- R36: `RX[0..n) <- r; RX[n..RX_CAP) <- zeros; RX_LEN <- n`. -/
def storeRx (r : List Byte) (s : State) : State :=
  { s with mem := s.mem.fill rxBase Config.rxCap r, rxLen := BitVec.ofNat Config.rxLenBits r.length }

/-- `RX[0..RX_LEN)` (R242). -/
def rxBytes (s : State) : List Byte := s.mem.bytes rxBase s.rxLen.toNat

/-- R260's `prologue()`, but for `BUSY <- 1`, which is the position the command step ends in (R39). -/
def prologue (s : State) : State :=
  { s with
    txCount := 0
    tx0Len := 0
    tx1Len := 0
    mem := (s.mem.fill tx0Base Config.frameCap []).fill tx1Base Config.frameCap []
    diagAuth := false
    diagNav := false }

/-- R260: log the frame just written in `TX[TXCOUNT]` and increment `TXCOUNT`. `TX[0]` is `TX0` and `TX[1]` is `TX1`;
no `SEND` logs a third frame (R267), and what would happen then is log entry 5. -/
def logFrame (f : List Byte) (s : State) : State :=
  if s.txCount = 0 then
    { s with mem := s.mem.fill tx0Base Config.frameCap f, tx0Len := BitVec.ofNat 8 f.length, txCount := s.txCount + 1 }
  else
    { s with mem := s.mem.fill tx1Base Config.frameCap f, tx1Len := BitVec.ofNat 8 f.length, txCount := s.txCount + 1 }

/-- `TransportWrite(f)` is issued: the step ends, waiting for its answer (R260, R14). -/
def issueWrite (leg : Leg) (f : List Byte) (s : State) : State := { s with pos := .awaitWrite leg f }

/-- `TransportRead()` is issued: the step ends, waiting for its answer (R260, R14). -/
def issueRead (leg : Leg) (s : State) : State := { s with pos := .awaitRead leg }

/-- Go on with a frame build of state `s`: the packers answer the state after the build and the frame, or nothing where
an input register is out of range, which is `finish(E_RANGE)` with nothing else written (R130, R302). -/
def withBuilt (built : Option (State × List Byte)) (s : State) (k : State → List Byte → State) : State :=
  match built with
  | none => finish .range s
  | some (t, f) => k t f

/-- Which of a protocol's two frames a packer builds (R164, R203, R223). -/
inductive FrameKind where
  | auth
  | data
deriving DecidableEq, Repr

end Sys2Proof.Machine
end

