-- ==== Sys2Proof/Machine/Checksum.lean ====
section
/-! DEFINITION. The checksum unit (spec/40_checksum.md): the one-byte steps, the four pure functions (R100 to R103) and
the eight commands (R105 to R112). -/

namespace Sys2Proof.Machine

/-- One bit of the CRC8 loop (R100). -/
def crc8Bit (c : Byte) : Byte := if c.msb then (c <<< 1) ^^^ 0x31 else c <<< 1

/-- One byte of CRC8 (R106). -/
def crc8Step (c b : Byte) : Byte := (crc8Bit)^[8] (c ^^^ b)

/-- One bit of the CRC16/CCITT-FALSE loop (R101). -/
def crc16cBit (c : Half) : Half := if c.msb then (c <<< 1) ^^^ 0x1021 else c <<< 1

/-- One byte of CRC16/CCITT-FALSE (R108). -/
def crc16cStep (c : Half) (b : Byte) : Half := (crc16cBit)^[8] (c ^^^ (b.setWidth 16 <<< 8))

/-- One bit of the CRC16/MODBUS loop (R102). -/
def crc16mBit (c : Half) : Half := if c.getLsbD 0 then (c >>> 1) ^^^ 0xA001 else c >>> 1

/-- One byte of CRC16/MODBUS (R110). -/
def crc16mStep (c : Half) (b : Byte) : Half := (crc16mBit)^[8] (c ^^^ b.setWidth 16)

/-- `crc8(s)` (R100). -/
def crc8 (s : List Byte) : Byte := s.foldl crc8Step 0xFF

/-- `crc16c(s)` (R101). -/
def crc16c (s : List Byte) : Half := s.foldl crc16cStep 0xFFFF

/-- `crc16m(s)` (R102). -/
def crc16m (s : List Byte) : Half := s.foldl crc16mStep 0xFFFF

/-- `xor8(s)` (R103). -/
def xor8 (s : List Byte) : Byte := s.foldl (· ^^^ ·) 0x00

/-- `CRC8.INIT` (R105). -/
def execCrc8Init (s : State) : Host.Outcome State Fault Refusal := .next (finish .ok { s with crc8Acc := 0xFF })

/-- `CRC8.UPD b` (R106). -/
def execCrc8Upd (b : Byte) (s : State) : Host.Outcome State Fault Refusal :=
  .next (finish .ok { s with crc8Acc := crc8Step s.crc8Acc b })

/-- `CRC16C.INIT` (R107). -/
def execCrc16cInit (s : State) : Host.Outcome State Fault Refusal := .next (finish .ok { s with crc16cAcc := 0xFFFF })

/-- `CRC16C.UPD b` (R108). -/
def execCrc16cUpd (b : Byte) (s : State) : Host.Outcome State Fault Refusal :=
  .next (finish .ok { s with crc16cAcc := crc16cStep s.crc16cAcc b })

/-- `CRC16M.INIT` (R109). -/
def execCrc16mInit (s : State) : Host.Outcome State Fault Refusal := .next (finish .ok { s with crc16mAcc := 0xFFFF })

/-- `CRC16M.UPD b` (R110). -/
def execCrc16mUpd (b : Byte) (s : State) : Host.Outcome State Fault Refusal :=
  .next (finish .ok { s with crc16mAcc := crc16mStep s.crc16mAcc b })

/-- `XOR.INIT` (R111). -/
def execXorInit (s : State) : Host.Outcome State Fault Refusal := .next (finish .ok { s with xorAcc := 0x00 })

/-- `XOR.UPD b` (R112). -/
def execXorUpd (b : Byte) (s : State) : Host.Outcome State Fault Refusal :=
  .next (finish .ok { s with xorAcc := s.xorAcc ^^^ b })

end Sys2Proof.Machine
end

