-- ==== Sys2Proof/Machine/Egts.lean ====
section
/-! DEFINITION. The EGTS packer (spec/43_egts.md): header, payload, record, frame build and its command. -/

namespace Sys2Proof.Machine

/-- R180: the first 10 header bytes. -/
def egtsHdr10 (fdl id : Half) : List Byte :=
  [0x01, 0x00, 0x03, 0x0B, 0x00] ++ le16 fdl ++ le16 id ++ [0x01]

/-- R180: the 11-byte header, its last byte the CRC8 of the first ten. -/
def egtsHdr (fdl id : Half) : List Byte := egtsHdr10 fdl id ++ [crc8 (egtsHdr10 fdl id)]

/-- R181: the 21-byte position payload. -/
def egtsPos (s : State) : List Byte :=
  le32 (egtsTime s.time) ++ le32 (egtsFrac s.lat 900000000) ++ le32 (egtsFrac s.lon 1800000000) ++
    [eflags s.lat s.lon] ++ [0x00, 0x00, 0x00] ++ [0x00, 0x00, 0x00] ++ [0x00] ++ [0x00]

/-- R183: the 24-byte position subrecord. -/
def egtsSr (s : State) : List Byte := [0x10] ++ le16 21 ++ egtsPos s

/-- R183: the 35-byte record. -/
def egtsRec (s : State) : List Byte :=
  le16 24 ++ le16 s.egtsRn ++ [0x01] ++ le32 (dev32 s) ++ [0x02] ++ [0x02] ++ egtsSr s

/-- R184: the 48-byte frame; its CRC16/CCITT-FALSE is appended little-endian. -/
def egtsFrame (s : State) : List Byte :=
  egtsHdr (BitVec.ofNat 16 (egtsRec s).length) s.egtsPid ++ egtsRec s ++ le16 (crc16c (egtsRec s))

/-- R184: `egts_build()`, which post-increments both counters. -/
def egtsBuild (s : State) : Option (State × List Byte) :=
  if coordsOk s then
    some (setFrame (egtsFrame s) { s with egtsPid := s.egtsPid + 1, egtsRn := s.egtsRn + 1 }, egtsFrame s)
  else none

/-- `PACK.EGTS` (R185). -/
def execPackEgts (s : State) : Host.Outcome State Fault Refusal :=
  .next (withBuilt (egtsBuild s) s fun t _ => finish .ok t)

end Sys2Proof.Machine
end

