-- ==== Sys2Proof/Machine/Ndtp.lean ====
section
/-! DEFINITION. The NDTP packer (spec/42_ndtp.md): layers, bodies, frame build and its two commands. -/

namespace Sys2Proof.Machine

/-- R160: the 10-byte NPH header and the body; the request id is the packet id zero-extended to 32 bits. -/
def ndtpNph (svc typ fl id : Half) (body : List Byte) : List Byte :=
  le16 svc ++ le16 typ ++ le16 fl ++ le32 (id.setWidth 32) ++ body

/-- R161: the 15-byte NPL header around the NPH payload `p`; its CRC16/MODBUS is stored big-endian. -/
def ndtpNpl (P : Params) (id : Half) (p : List Byte) : List Byte :=
  P.ndtpSig.toList ++ le16 (BitVec.ofNat 16 p.length) ++ le16 0x0002 ++ be16 (crc16m p) ++ [0x01] ++ le32 0 ++
    le16 id ++ p

/-- R162: the 14-byte authentication body. -/
def ndtpAuthBody (P : Params) (s : State) : List Byte :=
  [0x06, 0x02] ++ le16 P.ndtpAuthCaps ++ le32 (dev32 s) ++ le16 P.ndtpAuthMss ++ zeros 4

/-- R163: the 28-byte navigation-data body. -/
def ndtpNavBody (s : State) : List Byte :=
  [0x00, 0x00] ++ le32 s.time ++ le32 (magnitude s.lon) ++ le32 (magnitude s.lat) ++ [nflags s.lon] ++ zeros 13

/-- R164: the NDTP authentication frame of the packet registers and the packet id. -/
def ndtpAuthFrame (P : Params) (s : State) : List Byte :=
  ndtpNpl P s.ndtpPid (ndtpNph P.ndtpAuthSvc P.ndtpAuthType P.ndtpAuthNphf s.ndtpPid (ndtpAuthBody P s))

/-- R164: the NDTP navigation-data frame of the packet registers and the packet id. -/
def ndtpNavFrame (P : Params) (s : State) : List Byte :=
  ndtpNpl P s.ndtpPid (ndtpNph P.ndtpNavSvc P.ndtpNavType P.ndtpNavNphf s.ndtpPid (ndtpNavBody s))

/-- R164: put the frame in `FRAME` and post-increment `NDTP_PID`. -/
def ndtpPut (f : List Byte) (s : State) : State := setFrame f { s with ndtpPid := s.ndtpPid + 1 }

/-- R164: `ndtp_build(kind)`. -/
def ndtpBuild (k : FrameKind) (s : State) : Option (State × List Byte) :=
  match k with
  | .auth => some (ndtpPut (ndtpAuthFrame Config.params s) s, ndtpAuthFrame Config.params s)
  | .data =>
    if coordsOk s then some (ndtpPut (ndtpNavFrame Config.params s) s, ndtpNavFrame Config.params s) else none

/-- `PACK.NDTPA` (R165). -/
def execPackNdtpa (s : State) : Host.Outcome State Fault Refusal :=
  .next (withBuilt (ndtpBuild .auth s) s fun t _ => finish .ok t)

/-- `PACK.NDTPN` (R166). -/
def execPackNdtpn (s : State) : Host.Outcome State Fault Refusal :=
  .next (withBuilt (ndtpBuild .data s) s fun t _ => finish .ok t)

end Sys2Proof.Machine
end

