-- ==== Sys2Proof/Machine/Ntc.lean ====
section
/-! DEFINITION. The Navtelecom packer (spec/44_navtelecom.md): header, bodies, frame build and its two commands. -/

namespace Sys2Proof.Machine

/-- R200: header bytes `[0..15)` of a body. -/
def ntcHdr15 (P : Params) (b : List Byte) : List Byte :=
  P.ntcSig.toList ++ le32 1 ++ le32 0 ++ le16 (BitVec.ofNat 16 b.length) ++ [xor8 b]

/-- R200: the 16-byte header of a body. -/
def ntcHdr (P : Params) (b : List Byte) : List Byte := ntcHdr15 P b ++ [xor8 (ntcHdr15 P b)]

/-- R201: the 19-byte auth body. -/
def ntcAuthBody (P : Params) (s : State) : List Byte := P.ntcAuthTag.toList ++ dev15 s

/-- `b[off .. off + len(x)) <- x` (R202). -/
def overlay (b : List Byte) (off : Nat) (x : List Byte) : List Byte := b.take off ++ x ++ b.drop (off + x.length)

/-- R202: the 75-byte data body. -/
def ntcDataBody (P : Params) (s : State) : List Byte :=
  let b := P.ntcDataTag.toList ++ le16 2 ++ be32 s.ntcRn ++ zeros 66
  let b := overlay b P.ntcLayout.ts1 (ntcTs s.time)
  let b := overlay b P.ntcLayout.ts2 (ntcTs s.time)
  let b := overlay b P.ntcLayout.lat (be32 (f32 s.lat))
  overlay b P.ntcLayout.lon (be32 (f32 s.lon))

/-- R203: the Navtelecom auth frame of the packet registers. -/
def ntcAuthFrame (P : Params) (s : State) : List Byte := ntcHdr P (ntcAuthBody P s) ++ ntcAuthBody P s

/-- R203: the Navtelecom data frame of the packet registers and the record number. -/
def ntcDataFrame (P : Params) (s : State) : List Byte := ntcHdr P (ntcDataBody P s) ++ ntcDataBody P s

/-- R203: `ntc_build(kind)`; only a data frame post-increments `NTC_RN`. -/
def ntcBuild (k : FrameKind) (s : State) : Option (State × List Byte) :=
  match k with
  | .auth =>
    if devid15Ok s then some (setFrame (ntcAuthFrame Config.params s) s, ntcAuthFrame Config.params s) else none
  | .data =>
    if coordsOk s then
      some (setFrame (ntcDataFrame Config.params s) { s with ntcRn := s.ntcRn + 1 }, ntcDataFrame Config.params s)
    else none

/-- `PACK.NTCA` (R205). -/
def execPackNtca (s : State) : Host.Outcome State Fault Refusal :=
  .next (withBuilt (ntcBuild .auth s) s fun t _ => finish .ok t)

/-- `PACK.NTCD` (R206). -/
def execPackNtcd (s : State) : Host.Outcome State Fault Refusal :=
  .next (withBuilt (ntcBuild .data s) s fun t _ => finish .ok t)

end Sys2Proof.Machine
end

