-- ==== Sys2Proof/Machine/Wln.lean ====
section
/-! DEFINITION. The Wialon packer (spec/45_wialon.md): the two lines, their build and its two commands. -/

namespace Sys2Proof.Machine

/-- R220: `#L#<device-id-decimal>;NA\r\n`. -/
def wlnAuthLine (s : State) : List Byte := ascii ['#', 'L', '#'] ++ devdec s ++ ascii [';', 'N', 'A', '\r', '\n']

/-- R221: the 56-byte data line. -/
def wlnDataLine (s : State) : List Byte :=
  ascii ['#', 'S', 'D', '#'] ++ wlnDate s.time ++ ascii [';'] ++ wlnTime s.time ++ ascii [';'] ++
    wfield s.lat 9 ++ ascii [';'] ++ latLetter s.lat ++ ascii [';'] ++
    wfield s.lon 10 ++ ascii [';'] ++ lonLetter s.lon ++
    ascii [';', 'N', 'A', ';', 'N', 'A', ';', 'N', 'A', ';', 'N', 'A', '\r', '\n']

/-- R223: a line build writes `FRAME` and no counter or flag; only the data line needs `coords_ok`. -/
def wlnBuild (k : FrameKind) (s : State) : Option (State × List Byte) :=
  match k with
  | .auth => some (setFrame (wlnAuthLine s) s, wlnAuthLine s)
  | .data => if coordsOk s then some (setFrame (wlnDataLine s) s, wlnDataLine s) else none

/-- `PACK.WLNA` (R224). -/
def execPackWlna (s : State) : Host.Outcome State Fault Refusal :=
  .next (withBuilt (wlnBuild .auth s) s fun t _ => finish .ok t)

/-- `PACK.WLND` (R225). -/
def execPackWlnd (s : State) : Host.Outcome State Fault Refusal :=
  .next (withBuilt (wlnBuild .data s) s fun t _ => finish .ok t)

end Sys2Proof.Machine
end

