-- ==== Sys2Proof/Machine/Session.lean ====
section
/-! DEFINITION. The session sequencer (spec/47_session.md): `NOP`, `SESS.NEW`, and `SEND` as its command step followed
by one step per transport answer (R260, R343). -/

namespace Sys2Proof.Machine

/-- `NOP` (R262). -/
def execNop (s : State) : Host.Outcome State Fault Refusal := .next (finish .ok s)

/-- R261: the context of protocol `p` newly constructed. -/
def newSession (p : Protocol) (s : State) : State :=
  match p with
  | .ndtp => { s with ndtpPid := 0, ndtpAuth := false }
  | .egts => { s with egtsPid := 0, egtsRn := 0 }
  | .ntc => { s with ntcRn := 0, ntcAuth := false }
  | .wln => { s with wlnAuth := false }

/-- `SESS.NEW p` (R261). -/
def execSessNew (p : Protocol) (s : State) : Host.Outcome State Fault Refusal := .next (finish .ok (newSession p s))

/-! ### The two halves of the `SEND` procedures -/

/-- The data half of R263: build the nav frame and write it. -/
def sendNdtpNav (s : State) : State := withBuilt (ndtpBuild .data s) s fun t f => issueWrite .ndtpNav f t

/-- The handshake half of R263: build the auth frame, set `NDTP_AUTH`, write the frame. -/
def sendNdtpAuth (s : State) : State :=
  withBuilt (ndtpBuild .auth s) s fun t f => issueWrite .ndtpAuth f { t with ndtpAuth := true }

/-- R264: build the EGTS frame and write it. -/
def sendEgtsFrame (s : State) : State := withBuilt (egtsBuild s) s fun t f => issueWrite .egts f t

/-- The data half of R265. -/
def sendNtcData (s : State) : State := withBuilt (ntcBuild .data s) s fun t f => issueWrite .ntcData f t

/-- The handshake half of R265: `NTC_AUTH` is set before the write and the check (preserved defect (c)). -/
def sendNtcAuth (s : State) : State :=
  withBuilt (ntcBuild .auth s) s fun t f => issueWrite .ntcAuth f { t with ntcAuth := true }

/-- The data half of R266. -/
def sendWlnData (s : State) : State := withBuilt (wlnBuild .data s) s fun t f => issueWrite .wlnData f t

/-- The handshake half of R266: `WLN_AUTH` is not set here. -/
def sendWlnAuth (s : State) : State := withBuilt (wlnBuild .auth s) s fun t f => issueWrite .wlnAuth f t

/-- `SEND NDTP` up to its first transport write (R263): the handshake test is `NDTP_PID` = 0. -/
def sendNdtp (s : State) : State :=
  if coordsOk s then if s.ndtpPid = 0 then sendNdtpAuth (prologue s) else sendNdtpNav (prologue s)
  else finish .range s

/-- `SEND EGTS` up to its transport write (R264). -/
def sendEgts (s : State) : State := if coordsOk s then sendEgtsFrame (prologue s) else finish .range s

/-- `SEND NTC` up to its first transport write (R265): `DEVID` is checked only when a handshake is due. -/
def sendNtc (s : State) : State :=
  if coordsOk s && (s.ntcAuth || devid15Ok s) then
    if s.ntcAuth then sendNtcData (prologue s) else sendNtcAuth (prologue s)
  else finish .range s

/-- `SEND WLN` up to its first transport write (R266). -/
def sendWln (s : State) : State :=
  if coordsOk s then if s.wlnAuth then sendWlnData (prologue s) else sendWlnAuth (prologue s)
  else finish .range s

/-- `SEND p` (R260): the step of the command word, which ends at the first transport write or with `E_RANGE`. -/
def execSend (p : Protocol) (s : State) : Host.Outcome State Fault Refusal :=
  match p with
  | .ndtp => .next (sendNdtp s)
  | .egts => .next (sendEgts s)
  | .ntc => .next (sendNtc s)
  | .wln => .next (sendWln s)

/-! ### The transport's answers -/

/-- The rest of `xfer` after the write (R260): an error or a short write is `E_TRANSPORT` and the frame is not logged;
otherwise the frame is logged and the read is issued. An answer no write awaits changes nothing (log entry 6). -/
def onWriteAnswer (w : WriteAnswer) (s : State) : State :=
  match s.pos with
  | .awaitWrite leg f =>
    match w with
    | .err => finish .transport s
    | .ok n => if n = f.length then issueRead leg (logFrame f s) else finish .transport s
  | .idle => s
  | .awaitRead _ => s

/-- What the response `r` to a frame decides: the policy table of R243 and the ends of R263 to R266. -/
def afterRead (leg : Leg) (r : List Byte) (s : State) : State :=
  match leg with
  | .ndtpAuth => sendNdtpNav (if ackEq r Config.params.ndtpNack.bytes then { s with diagAuth := true } else s)
  | .ndtpNav => finish .ok (if ackEq r Config.params.ndtpNack.bytes then { s with diagNav := true } else s)
  | .egts => if ackEq r Config.params.egtsAck.bytes then finish .ok s else finish .validation s
  | .ntcAuth => if ackEq r Config.params.ntcAuthOk.bytes then sendNtcData s else finish .validation s
  | .ntcData => if ackEq r Config.params.ntcDataOk.bytes then finish .ok s else finish .validation s
  | .wlnAuth => if ackEq r Config.wlnAuthOk then sendWlnData { s with wlnAuth := true } else finish .validation s
  | .wlnData => if ackEq r Config.wlnDataOk then finish .ok s else finish .validation s

/-- The rest of `xfer` after the read (R260): an error is `E_TRANSPORT`; a response is stored in `RX` and judged. An
answer no read awaits changes nothing (log entry 6). -/
def onReadAnswer (a : ReadAnswer) (s : State) : State :=
  match s.pos with
  | .awaitRead leg =>
    match a with
    | .err => finish .transport s
    | .ok r => afterRead leg r.bytes (storeRx r.bytes s)
  | .idle => s
  | .awaitWrite _ _ => s

end Sys2Proof.Machine
end

