-- ==== Sys2Proof/Machine/Validator.lean ====
section
/-! DEFINITION. The acknowledgement validator's command (R242). -/

namespace Sys2Proof.Machine

/-- `ACK.CHK k` (R242): `ACK_MATCH` from the byte-exact comparison of `RX[0..RX_LEN)` with template `k`. The numbers 6
and 7, which no legal word holds (R83, R85), do what an illegal word does. -/
def execAckChk (k : BitVec 3) (s : State) : Host.Outcome State Fault Refusal :=
  match templateOf Config.params k with
  | some t => .next (finish .ok { s with ackMatch := ackEq (rxBytes s) t })
  | none => .next (illegalWord s)

end Sys2Proof.Machine
end

