-- ==== Sys2Proof/Machine/Dispatch.lean ====
section
/-! DEFINITION. The executor: one arm per command (R84). -/

namespace Sys2Proof.Machine

/-- What a legal command does, once the block has taken its word (R304). -/
def exec (i : Instr) (s : State) : Host.Outcome State Fault Refusal :=
  match i with
  | .nop => Sys2Proof.Machine.execNop s
  | .sessNew p => Sys2Proof.Machine.execSessNew p s
  | .send p => Sys2Proof.Machine.execSend p s
  | .crc8Init => Sys2Proof.Machine.execCrc8Init s
  | .crc8Upd b => Sys2Proof.Machine.execCrc8Upd b s
  | .crc16cInit => Sys2Proof.Machine.execCrc16cInit s
  | .crc16cUpd b => Sys2Proof.Machine.execCrc16cUpd b s
  | .crc16mInit => Sys2Proof.Machine.execCrc16mInit s
  | .crc16mUpd b => Sys2Proof.Machine.execCrc16mUpd b s
  | .xorInit => Sys2Proof.Machine.execXorInit s
  | .xorUpd b => Sys2Proof.Machine.execXorUpd b s
  | .packNdtpa => Sys2Proof.Machine.execPackNdtpa s
  | .packNdtpn => Sys2Proof.Machine.execPackNdtpn s
  | .packEgts => Sys2Proof.Machine.execPackEgts s
  | .packNtca => Sys2Proof.Machine.execPackNtca s
  | .packNtcd => Sys2Proof.Machine.execPackNtcd s
  | .packWlna => Sys2Proof.Machine.execPackWlna s
  | .packWlnd => Sys2Proof.Machine.execPackWlnd s
  | .ackChk k => Sys2Proof.Machine.execAckChk k s

end Sys2Proof.Machine
end

