-- ==== Sys2Proof/Machine/HostPort.lean ====
section
/-! DEFINITION. The host register port (R22, R60 to R65) and the delivery of one event of the environment. -/

namespace Sys2Proof.Machine

/-- R61: every host access is a word access at a multiple of 4. -/
def aligned (a : PortAddr) : Bool := decide (a.toNat % 4 = 0)

/-- `a` is the address of a byte of one of the four buffers (R22). -/
def isBufferAddr (a : Nat) : Bool :=
  inWindow frameBase Config.frameCap a || inWindow tx0Base Config.frameCap a || inWindow tx1Base Config.frameCap a ||
    inWindow rxBase Config.rxCap a

/-- The word of a listed register (R22); a read of `CMD` and of a reserved address is 0 (R62). -/
def readRegister (s : State) (a : Nat) : Word :=
  match a with
  | 0x004 => statusWord s
  | 0x008 => s.devidLo
  | 0x00C => s.devidHi
  | 0x010 => s.time
  | 0x014 => s.lat
  | 0x018 => s.lon
  | 0x01C => s.crc8Acc.setWidth 32
  | 0x020 => s.crc16cAcc.setWidth 32
  | 0x024 => s.crc16mAcc.setWidth 32
  | 0x028 => s.xorAcc.setWidth 32
  | 0x02C => (BitVec.ofBool s.ndtpAuth ++ s.ndtpPid).setWidth 32
  | 0x030 => s.egtsRn ++ s.egtsPid
  | 0x034 => s.ntcRn
  | 0x038 => (BitVec.ofBool s.wlnAuth ++ BitVec.ofBool s.ntcAuth).setWidth 32
  | 0x03C => s.frameLen.setWidth 32
  | 0x040 => s.rxLen.setWidth 32
  | 0x044 => s.tx0Len.setWidth 32
  | 0x048 => s.tx1Len.setWidth 32
  | _ => 0

/-- `HostRead(addr)` (R60 to R63): without side effect on the block's state. -/
def hostRead (s : State) (a : PortAddr) : Word :=
  if aligned a then
    if isBufferAddr a.toNat then (s.mem.read a.toNat).setWidth 32 else readRegister s a.toNat
  else 0

/-- A `CMD` write taken by an idle block (R84, R304): an illegal word ends with `E_ILLEGAL`, a legal one executes. -/
def runWord (w : Half) (s : State) : Host.Outcome State Fault Refusal :=
  match decode w with
  | .ok i => exec i s
  | .error _ => .next (illegalWord s)

/-- R64: a write that is dropped while `BUSY` = 1 and takes effect otherwise. -/
def unlessBusy (s t : State) : State := if busy s then dropWrite s else t

/-- R65: a write to `RX_LEN` above `RX_CAP` is ignored. -/
def setRxLen (v : Word) (s : State) : State :=
  if v.toNat ≤ Config.rxCap then { s with rxLen := v.setWidth Config.rxLenBits } else s

/-- A write to an aligned address other than `CMD` (R62 to R65). -/
def writeRegister (a : Nat) (v : Word) (s : State) : State :=
  match a with
  | 0x004 => if v.getLsbD 5 then { s with ovr := false } else s
  | 0x008 => unlessBusy s { s with devidLo := v }
  | 0x00C => unlessBusy s { s with devidHi := v }
  | 0x010 => unlessBusy s { s with time := v }
  | 0x014 => unlessBusy s { s with lat := v }
  | 0x018 => unlessBusy s { s with lon := v }
  | 0x040 => unlessBusy s (setRxLen v s)
  | a =>
    if inWindow rxBase Config.rxCap a then unlessBusy s { s with mem := s.mem.write a (v.setWidth 8) } else s

/-- `HostWrite(addr, v)` (R60 to R65): a misaligned write is ignored; a `CMD` write starts the command `v[15:0]`. -/
def hostWrite (a : PortAddr) (v : Word) (s : State) : Host.Outcome State Fault Refusal :=
  if aligned a then
    if a = 0 then if busy s then .next (dropWrite s) else runWord (v.setWidth 16) s
    else .next (writeRegister a.toNat v s)
  else .next s

/-- R331: power-on reset at any moment; what the environment does after it is still to come. -/
def powerReset (s : State) : State := { State.reset with events := s.events }

/-- One act of the environment (R6). -/
def deliver (e : Event) (s : State) : Host.Outcome State Fault Refusal :=
  match e with
  | .hostRead a => .next { s with readData := hostRead s a }
  | .hostWrite a v => hostWrite a v s
  | .writeAnswer w => .next (onWriteAnswer w s)
  | .readAnswer r => .next (onReadAnswer r s)
  | .powerReset => .next (powerReset s)

/-- The next event and the state that has taken it; none where the environment does nothing more. -/
def takeEvent (s : State) : Option (Event × State) :=
  match s.events with
  | [] => none
  | e :: rest => some (e, { s with events := rest })

/-- The state in which the very next act is the host's write of the `nbits`-bit word `w` to `CMD` of an idle block. -/
def writeCmdNext (s : State) (nbits w : Nat) : State :=
  { s with pos := .idle, events := .hostWrite 0x000 (BitVec.ofNat 32 (w % 2 ^ nbits)) :: s.events }

end Sys2Proof.Machine
end

