-- ==== Sys2Proof/Machine/Step.lean ====
section
/-! DEFINITION. One step: the next act of the environment, or nothing where there is none (R6, R21). -/

namespace Sys2Proof.Machine

/-- One step of the block. With no event left the block waits: it fetches nothing of its own (R21, R332). -/
def step (s : State) : Host.Outcome State Fault Refusal :=
  match takeEvent s with
  | none => .next s
  | some (e, t) => deliver e t

/-- `s` with the command word `w` of `nbits` bits as the host's next write to `CMD` of an idle block, so that the very
next step runs it. A command reaches this block in no other way (R21, log entry 7). -/
def State.withFetchWord (s : State) (nbits w : Nat) : State := writeCmdNext s nbits w

end Sys2Proof.Machine
end

