-- ==== Sys2Proof/Safety.lean ====
section
/-! DEFINITION. The terms in which claims about the block are stated: runs, buffer contents, and the invariants that every
step keeps. -/

namespace Sys2Proof.Machine

/-! ### Runs -/

/-- `n` steps, stopping at the first fault or refusal. -/
def runSteps : Nat → State → Host.Outcome State Fault Refusal
  | 0, s => .next s
  | n + 1, s =>
    match step s with
    | .next t => runSteps n t
    | .fault r => .fault r
    | .refused r => .refused r

/-- Commands executed one after the other by an idle block. -/
def execAll : List Instr → State → Host.Outcome State Fault Refusal
  | [], s => .next s
  | i :: is, s =>
    match exec i s with
    | .next t => execAll is t
    | .fault r => .fault r
    | .refused r => .refused r

/-- The byte that a command folds into a generator: `upd` names the generator by its `UPD` command. -/
def foldedByte (upd : Byte → Instr) (i : Instr) : Option Byte :=
  match i with
  | .crc8Upd b | .crc16cUpd b | .crc16mUpd b | .xorUpd b => if i = upd b then some b else none
  | _ => none

/-! ### Byte strings and buffers -/

/-- `s[a..b)` (R11). -/
def slice (s : List Byte) (a b : Nat) : List Byte := (s.drop a).take (b - a)

/-- The buffer of `cap` bytes at `base` holds `bs`, then zeros (R35 to R37). -/
def bufferHolds (m : Memory) (base cap : Nat) (bs : List Byte) : Prop :=
  ∀ i < cap, m.read (base + 4 * i) = bs.getD i 0

/-- Address `a` is not in the address range of the buffer of `cap` bytes at `base`. -/
def outside (base cap a : Nat) : Prop := a < base ∨ base + 4 * cap ≤ a

/-- What R35 says of a frame build: `FRAME` and `FRAME_LEN` hold `f`, every other byte is unchanged. -/
def frameBuilt (s t : State) (f : List Byte) : Prop :=
  t.frameLen.toNat = f.length ∧ bufferHolds t.mem frameBase Config.frameCap f ∧
    ∀ a, outside frameBase Config.frameCap a → t.mem.read a = s.mem.read a

/-- The memory and position in which the command step of a `SEND` ends (R260): `FRAME` holds the first frame, the log is
cleared, every other byte is unchanged, and the frame awaits its write answer. -/
def sendStarted (s t : State) (leg : Leg) (f : List Byte) : Prop :=
  t.pos = .awaitWrite leg f ∧ t.frameLen.toNat = f.length ∧ bufferHolds t.mem frameBase Config.frameCap f ∧
    bufferHolds t.mem tx0Base Config.frameCap [] ∧ bufferHolds t.mem tx1Base Config.frameCap [] ∧
    ∀ a, outside frameBase Config.frameCap a → outside tx0Base Config.frameCap a → outside tx1Base Config.frameCap a →
      t.mem.read a = s.mem.read a

/-! ### The policy table (R243) -/

/-- A handshake frame, the first of its `SEND`. -/
def isAuthLeg : Leg → Bool
  | .ndtpAuth | .ntcAuth | .wlnAuth => true
  | .ndtpNav | .egts | .ntcData | .wlnData => false

/-- The template a frame's response is compared with (R243). -/
def legTemplate (P : Params) : Leg → List Byte
  | .ndtpAuth | .ndtpNav => P.ndtpNack.bytes
  | .egts => P.egtsAck.bytes
  | .ntcAuth => P.ntcAuthOk.bytes
  | .ntcData => P.ntcDataOk.bytes
  | .wlnAuth => Config.wlnAuthOk
  | .wlnData => Config.wlnDataOk

/-- A frame of NDTP, whose responses are never fatal (R303). -/
def isNdtpLeg : Leg → Bool
  | .ndtpAuth | .ndtpNav => true
  | .egts | .ntcAuth | .ntcData | .wlnAuth | .wlnData => false

/-- A register a `BUSY` block does not let the host write (R64). -/
def busyProtected (a : PortAddr) : Bool :=
  decide (a ∈ [0x000, 0x008, 0x00C, 0x010, 0x014, 0x018, 0x040]) || inWindow rxBase Config.rxCap a.toNat

/-- An address of R22's register map. -/
def listedAddr (a : PortAddr) : Bool := decide (a.toNat % 4 = 0 ∧ a.toNat ≤ 0x048) || isBufferAddr a.toNat

/-! ### Invariants -/

/-- The memory is in canonical form and lists bytes of the buffers only (R22). -/
def CanonicalMemory (s : State) : Prop := Memory.wf s.mem ∧ ∀ c ∈ s.mem, isBufferAddr c.1 = true

/-- The lengths fit the buffers, and `FRAME`, `TX0` and `TX1` are zero after their length (R35, R37); a frame being
written fits its log. `RX` is not zero-filled: the host writes its bytes and its length apart (R65). -/
def BuffersFilled (s : State) : Prop :=
  s.frameLen.toNat ≤ Config.frameCap ∧ s.tx0Len.toNat ≤ Config.frameCap ∧ s.tx1Len.toNat ≤ Config.frameCap ∧
  s.rxLen.toNat ≤ Config.rxCap ∧
  (∀ i, s.frameLen.toNat ≤ i → i < Config.frameCap → s.mem.read (frameBase + 4 * i) = 0) ∧
  (∀ i, s.tx0Len.toNat ≤ i → i < Config.frameCap → s.mem.read (tx0Base + 4 * i) = 0) ∧
  (∀ i, s.tx1Len.toNat ≤ i → i < Config.frameCap → s.mem.read (tx1Base + 4 * i) = 0) ∧
  ∀ leg f, s.pos = .awaitWrite leg f → f.length ≤ Config.frameCap

/-- The session flags a frame in transfer implies (R263, R265, R266). -/
def legFlags (s : State) : Leg → Prop
  | .ndtpAuth => s.ndtpAuth = true
  | .ntcAuth | .ntcData => s.ntcAuth = true
  | .wlnAuth => s.wlnAuth = false
  | .wlnData => s.wlnAuth = true
  | .ndtpNav | .egts => True

/-- The position inside a `SEND` agrees with the rest of the state: the packet is in range, the frame being written is
the one in `FRAME`, and the log has one entry for each frame already written (R26, R35, R260, R267). -/
def SendConsistent (s : State) : Prop :=
  match s.pos with
  | .idle => s.txCount.toNat ≤ 2
  | .awaitWrite leg f =>
    coordsOk s = true ∧ f = s.mem.bytes frameBase s.frameLen.toNat ∧ legFlags s leg ∧
      (if isAuthLeg leg then s.txCount.toNat = 0 else s.txCount.toNat ≤ 1)
  | .awaitRead leg =>
    coordsOk s = true ∧ legFlags s leg ∧
      (if isAuthLeg leg then s.txCount.toNat = 1 else s.txCount.toNat = 1 ∨ s.txCount.toNat = 2)

end Sys2Proof.Machine
end

