-- ==== Sys2Proof/Certificates/Slice0/Obligations.lean ====
section
/-! DEFINITION. The statements for the provers, in the order of OBLIGATIONS.json. Each docstring names the rules of spec/
it formalises. A command is stated on an idle block (`busy s = false`): a busy block drops the `CMD` write (R64, R304). -/

section Statements
open Sys2Proof Sys2Proof.Machine

/-! ### Encoding -/

/-- R80, R81, R84, R85: a word decodes to a command exactly where it is the encoding of that well-formed command. -/
def Obligations.DecodeAndEncodeAgree : Prop :=
  ∀ (w : Half) (i : Instr), decode w = .ok i ↔ i.wellFormed = true ∧ encode i = w

/-- R84, R85 on the words that 95_test_vectors.md §5 lists, one per format at least. -/
def Obligations.ListedWordsDecode : Prop :=
  decode 0x0000 = .ok .nop ∧ decode 0x0103 = .ok (.sessNew .wln) ∧ decode 0x0202 = .ok (.send .ntc) ∧
  decode 0x1000 = .ok .crc8Init ∧ decode 0x11FF = .ok (.crc8Upd 0xFF) ∧ decode 0x2600 = .ok .packWlnd ∧
  decode 0x3005 = .ok (.ackChk 5) ∧
  decode 0x0001 = .error .operandZ ∧ decode 0x0104 = .error .operandP ∧ decode 0x0300 = .error .opcode ∧
  decode 0x3006 = .error .operandK ∧ decode 0x3008 = .error .operandK ∧ decode 0xFFFF = .error .opcode

/-- R85: which words are illegal, and that the block executes one by writing `E_ILLEGAL` and nothing else. -/
def Obligations.IllegalWordsWriteOnlyTheCode : Prop :=
  ∀ w : Half,
    ((∃ e, decode w = .error e) ↔
      (0x03 ≤ w.toNat / 256 ∧ w.toNat / 256 ≤ 0x0F) ∨ (0x18 ≤ w.toNat / 256 ∧ w.toNat / 256 ≤ 0x1F) ∨
      (0x27 ≤ w.toNat / 256 ∧ w.toNat / 256 ≤ 0x2F) ∨ 0x31 ≤ w.toNat / 256 ∨
      (w.toNat / 256 ∈ [0x00, 0x10, 0x12, 0x14, 0x16, 0x20, 0x21, 0x22, 0x23, 0x24, 0x25, 0x26] ∧
        w.toNat % 256 ≠ 0) ∨
      (w.toNat / 256 ∈ [0x01, 0x02] ∧ w.toNat % 256 / 4 ≠ 0) ∨
      (w.toNat / 256 = 0x30 ∧ (w.toNat % 256 / 8 ≠ 0 ∨ 5 < w.toNat % 8))) ∧
    ∀ (s : State) (v : Word) (rest : List Event), (∃ e, decode w = .error e) → v.setWidth 16 = w → busy s = false →
      s.events = .hostWrite 0x000 v :: rest → step s = .next { s with code := .illegal, events := rest }

/-! ### The step and the host port -/

/-- R63, R304: on an idle block a step whose event is a `CMD` write runs exactly the command its low 16 bits decode to.
The second clause is the model's choice, no rule of the spec (log entry 7): `withFetchWord` makes the block idle, whatever
it was doing, and the step after it runs the word's command. -/
def Obligations.StepRunsTheDecodedCommand : Prop :=
  (∀ (s : State) (v : Word) (rest : List Event) (i : Instr), busy s = false →
    s.events = .hostWrite 0x000 v :: rest → decode (v.setWidth 16) = .ok i →
    step s = exec i { s with events := rest }) ∧
  ∀ (s : State) (w : Nat) (i : Instr), decodeTableWord 16 w = some i →
    step (s.withFetchWord 16 w) = exec i { s with pos := .idle }

/-- R85, R307, D34: no state stops the block; each step takes one event, and none changes nothing. That the block waits
where the list of events is empty is the model's reading (log entry 7). -/
def Obligations.EveryStepAnswersAState : Prop :=
  ∀ s : State, ∃ t, step s = .next t ∧ t.events = s.events.tail ∧ (s.events = [] → t = s)

/-- R64: what a `BUSY` block does with a host access. -/
def Obligations.BusyBlockDropsProtectedWrites : Prop :=
  ∀ (s : State) (rest : List Event), busy s = true →
    (∀ a v, s.events = .hostWrite a v :: rest → busyProtected a = true →
      step s = .next { s with ovr := true, events := rest }) ∧
    (∀ v, s.events = .hostWrite 0x004 v :: rest →
      step s = .next { s with ovr := s.ovr && !v.getLsbD 5, events := rest }) ∧
    ∀ a, s.events = .hostRead a :: rest → step s = .next { s with readData := hostRead s a, events := rest }

/-- R61: a misaligned read returns 0 and a misaligned write is ignored. -/
def Obligations.MisalignedAccessesDoNothing : Prop :=
  ∀ (s : State) (a : PortAddr) (rest : List Event), a.toNat % 4 ≠ 0 →
    hostRead s a = 0 ∧
    (s.events = .hostRead a :: rest → step s = .next { s with readData := 0, events := rest }) ∧
    ∀ v, s.events = .hostWrite a v :: rest → step s = .next { s with events := rest }

/-- R62: reserved addresses, read-only registers, the frame and log windows, and reads of `CMD`. -/
def Obligations.ReservedAccessesDoNothing : Prop :=
  ∀ (s : State) (a : PortAddr) (rest : List Event),
    (a.toNat % 4 = 0 → (listedAddr a = false ∨ a = 0x000) → hostRead s a = 0 ∧
      (s.events = .hostRead a :: rest → step s = .next { s with readData := 0, events := rest })) ∧
    (a.toNat % 4 = 0 →
      (listedAddr a = false ∨ a ∈ [0x01C, 0x020, 0x024, 0x028, 0x02C, 0x030, 0x034, 0x038, 0x03C, 0x044, 0x048] ∨
        inWindow frameBase Config.frameCap a.toNat = true ∨ inWindow tx0Base Config.frameCap a.toNat = true ∨
        inWindow tx1Base Config.frameCap a.toNat = true) →
      ∀ v, s.events = .hostWrite a v :: rest → step s = .next { s with events := rest })

/-- R63: a host read changes nothing of the block, and the register writes of an idle block (a `CMD` write is
`StepRunsTheDecodedCommand`, an `RX` write `ResponseBufferWrites`). -/
def Obligations.HostAccessesOfAnIdleBlock : Prop :=
  ∀ (s : State) (rest : List Event), busy s = false →
    (∀ a, s.events = .hostRead a :: rest → step s = .next { s with readData := hostRead s a, events := rest }) ∧
    (∀ v, s.events = .hostWrite 0x004 v :: rest →
      step s = .next { s with ovr := s.ovr && !v.getLsbD 5, events := rest }) ∧
    (∀ v, s.events = .hostWrite 0x008 v :: rest → step s = .next { s with devidLo := v, events := rest }) ∧
    (∀ v, s.events = .hostWrite 0x00C v :: rest → step s = .next { s with devidHi := v, events := rest }) ∧
    (∀ v, s.events = .hostWrite 0x010 v :: rest → step s = .next { s with time := v, events := rest }) ∧
    (∀ v, s.events = .hostWrite 0x014 v :: rest → step s = .next { s with lat := v, events := rest }) ∧
    ∀ v, s.events = .hostWrite 0x018 v :: rest → step s = .next { s with lon := v, events := rest }

/-- R65: a host write to `RX[i]` sets that byte alone; a write to `RX_LEN` sets it up to `RX_CAP` and is ignored above. -/
def Obligations.ResponseBufferWrites : Prop :=
  ∀ (s : State) (v : Word) (rest : List Event), CanonicalMemory s → busy s = false →
    (∀ i : Nat, i < Config.rxCap → s.events = .hostWrite (BitVec.ofNat 16 (rxBase + 4 * i)) v :: rest →
      ∃ t, step s = .next t ∧ t.mem.read (rxBase + 4 * i) = v.setWidth 8 ∧
        (∀ a, a ≠ rxBase + 4 * i → t.mem.read a = s.mem.read a) ∧ t = { s with mem := t.mem, events := rest }) ∧
    (s.events = .hostWrite 0x040 v :: rest → v.toNat ≤ Config.rxCap →
      ∃ t, step s = .next t ∧ t.rxLen.toNat = v.toNat ∧ t = { s with rxLen := t.rxLen, events := rest }) ∧
    (s.events = .hostWrite 0x040 v :: rest → Config.rxCap < v.toNat → step s = .next { s with events := rest })

/-- R22, R300: the word each listed address reads as, `STATUS` field by field with the numbers of the result codes, and
the width of `RX_LEN`, the least number of bits that holds `RX_CAP`. -/
def Obligations.HostReadsTheRegisterMap : Prop :=
  ∀ s : State,
    ((hostRead s 0x004).extractLsb' 0 4).toNat =
      (match s.code with | .ok => 0 | .transport => 1 | .validation => 2 | .range => 3 | .illegal => 4) ∧
    (hostRead s 0x004).getLsbD 4 = busy s ∧
    (hostRead s 0x004).getLsbD 5 = s.ovr ∧ (hostRead s 0x004).getLsbD 6 = s.ackMatch ∧
    (hostRead s 0x004).getLsbD 7 = s.diagAuth ∧ (hostRead s 0x004).getLsbD 8 = s.diagNav ∧
    (hostRead s 0x004).extractLsb' 9 2 = s.txCount ∧ (hostRead s 0x004).extractLsb' 11 21 = 0 ∧
    hostRead s 0x008 = s.devidLo ∧ hostRead s 0x00C = s.devidHi ∧ hostRead s 0x010 = s.time ∧
    hostRead s 0x014 = s.lat ∧ hostRead s 0x018 = s.lon ∧
    (hostRead s 0x01C).toNat = s.crc8Acc.toNat ∧ (hostRead s 0x020).toNat = s.crc16cAcc.toNat ∧
    (hostRead s 0x024).toNat = s.crc16mAcc.toNat ∧ (hostRead s 0x028).toNat = s.xorAcc.toNat ∧
    (hostRead s 0x02C).toNat = s.ndtpPid.toNat + (if s.ndtpAuth then 2 ^ 16 else 0) ∧
    (hostRead s 0x030).toNat = s.egtsPid.toNat + s.egtsRn.toNat * 2 ^ 16 ∧ hostRead s 0x034 = s.ntcRn ∧
    (hostRead s 0x038).toNat = (if s.ntcAuth then 1 else 0) + (if s.wlnAuth then 2 else 0) ∧
    (hostRead s 0x03C).toNat = s.frameLen.toNat ∧ (hostRead s 0x040).toNat = s.rxLen.toNat ∧
    2 ^ (Config.rxLenBits - 1) ≤ Config.rxCap ∧ Config.rxCap < 2 ^ Config.rxLenBits ∧
    (hostRead s 0x044).toNat = s.tx0Len.toNat ∧ (hostRead s 0x048).toNat = s.tx1Len.toNat ∧
    (∀ i < Config.frameCap,
      (hostRead s (BitVec.ofNat 16 (0x400 + 4 * i))).toNat = (s.mem.read (0x400 + 4 * i)).toNat) ∧
    (∀ i < Config.frameCap,
      (hostRead s (BitVec.ofNat 16 (0x600 + 4 * i))).toNat = (s.mem.read (0x600 + 4 * i)).toNat) ∧
    (∀ i < Config.frameCap,
      (hostRead s (BitVec.ofNat 16 (0x800 + 4 * i))).toNat = (s.mem.read (0x800 + 4 * i)).toNat) ∧
    ∀ i < Config.rxCap,
      (hostRead s (BitVec.ofNat 16 (0x1000 + 4 * i))).toNat = (s.mem.read (0x1000 + 4 * i)).toNat

/-- R41, R330: every address of the port after reset, and no `SEND` in progress. -/
def Obligations.ResetValuesOfThePort : Prop :=
  (∀ a : PortAddr, hostRead State.reset a =
    if a = 0x01C then 0xFF else if a = 0x020 ∨ a = 0x024 then 0xFFFF else 0) ∧
  State.reset.pos = .idle ∧ busy State.reset = false

/-- R331: a power-on reset at any moment, also inside a `SEND`. That the model's own `readData` is cleared with it is log
entry 2. -/
def Obligations.PowerResetFromAnyState : Prop :=
  ∀ (s : State) (rest : List Event), s.events = .powerReset :: rest →
    step s = .next { State.reset with events := rest }

/-- R271, R331: nothing the host does ends a `SEND` or moves its position; only an answer or a reset does. -/
def Obligations.HostCannotEndASend : Prop :=
  ∀ (s t : State), busy s = true → step s = .next t → t.pos ≠ s.pos →
    (∃ rest, s.events = .powerReset :: rest) ∨ (∃ w rest, s.events = .writeAnswer w :: rest) ∨
    ∃ r rest, s.events = .readAnswer r :: rest

/-! ### Sequencer and checksum commands -/

/-- R262, with its encoding. -/
def Obligations.NopWritesOnlyTheCode : Prop :=
  decode 0x0000 = .ok .nop ∧ ∀ s : State, busy s = false → exec .nop s = .next { s with code := .ok }

/-- R261, with its encodings: the context of the protocol alone is newly constructed. -/
def Obligations.SessNewConstructsOneContext : Prop :=
  (decode 0x0100 = .ok (.sessNew .ndtp) ∧ decode 0x0101 = .ok (.sessNew .egts) ∧ decode 0x0102 = .ok (.sessNew .ntc) ∧
    decode 0x0103 = .ok (.sessNew .wln)) ∧
  ∀ s : State, busy s = false →
    exec (.sessNew .ndtp) s = .next { s with ndtpPid := 0, ndtpAuth := false, code := .ok } ∧
    exec (.sessNew .egts) s = .next { s with egtsPid := 0, egtsRn := 0, code := .ok } ∧
    exec (.sessNew .ntc) s = .next { s with ntcRn := 0, ntcAuth := false, code := .ok } ∧
    exec (.sessNew .wln) s = .next { s with wlnAuth := false, code := .ok }

/-- R105, R107, R109, R111, with their encodings. -/
def Obligations.ChecksumInitsLoadInitialValues : Prop :=
  (decode 0x1000 = .ok .crc8Init ∧ decode 0x1200 = .ok .crc16cInit ∧ decode 0x1400 = .ok .crc16mInit ∧
    decode 0x1600 = .ok .xorInit) ∧
  ∀ s : State, busy s = false →
    exec .crc8Init s = .next { s with crc8Acc := 0xFF, code := .ok } ∧
    exec .crc16cInit s = .next { s with crc16cAcc := 0xFFFF, code := .ok } ∧
    exec .crc16mInit s = .next { s with crc16mAcc := 0xFFFF, code := .ok } ∧
    exec .xorInit s = .next { s with xorAcc := 0x00, code := .ok }

/-- R106, R108, R110, R112: the loops written out, the encodings, the corner cases and the examples. -/
def Obligations.ChecksumUpdatesFoldOneByte : Prop :=
  (∀ (s : State) (b : Byte), busy s = false →
    exec (.crc8Upd b) s = .next { s with code := .ok, crc8Acc :=
      (fun c : Byte => if c.getLsbD 7 then (c <<< 1) ^^^ 0x31 else c <<< 1)^[8] (s.crc8Acc ^^^ b) } ∧
    exec (.crc16cUpd b) s = .next { s with code := .ok, crc16cAcc :=
      ((fun c : Half => if c.getLsbD 15 then (c <<< 1) ^^^ 0x1021 else c <<< 1)^[8]
        (s.crc16cAcc ^^^ (b.setWidth 16 <<< 8))) } ∧
    exec (.crc16mUpd b) s = .next { s with code := .ok, crc16mAcc :=
      (fun c : Half => if c.getLsbD 0 then (c >>> 1) ^^^ 0xA001 else c >>> 1)^[8] (s.crc16mAcc ^^^ b.setWidth 16) } ∧
    exec (.xorUpd b) s = .next { s with code := .ok, xorAcc := s.xorAcc ^^^ b }) ∧
  (∀ b : Byte, decode ((0x11 : Byte) ++ b) = .ok (.crc8Upd b) ∧ decode ((0x13 : Byte) ++ b) = .ok (.crc16cUpd b) ∧
    decode ((0x15 : Byte) ++ b) = .ok (.crc16mUpd b) ∧ decode ((0x17 : Byte) ++ b) = .ok (.xorUpd b)) ∧
  crc8Step 0xFF 0x00 = 0xAC ∧ crc8Step 0xFF 0xFF = 0x00 ∧ crc8Step 0xFF 0x31 = 0x58 ∧
  crc16cStep 0xFFFF 0xFF = 0xFF00 ∧ crc16cStep 0xFFFF 0x00 = 0xE1F0 ∧
  crc16mStep 0xFFFF 0xFF = 0x00FF ∧ crc16mStep 0xFFFF 0x00 = 0x40BF ∧
  crc16c [0x31, 0x32, 0x33, 0x34, 0x35, 0x36, 0x37, 0x38, 0x39] = 0x29B1 ∧
  crc16m [0x31, 0x32, 0x33, 0x34, 0x35, 0x36, 0x37, 0x38, 0x39] = 0x4B37 ∧ xor8 [0x2A, 0x3E] = 0x14

/-- R113, carried further: after `G.INIT` and any commands with no second `G.INIT`, the accumulator of `G` is its function
of the bytes folded into it; commands to other units may stand between. R113 names the generators, packers and the
validator; that the list may also hold sequencer commands, and that a command after a `SEND` is executed on the busy
block, is the model's choice (log entry 5): the spec drops such a `CMD` write (R64). -/
def Obligations.SpanLawOfTheGenerators : Prop :=
  ∀ (is : List Instr) (s : State),
    (.crc8Init ∉ is → ∃ t, execAll (.crc8Init :: is) s = .next t ∧
      t.crc8Acc = crc8 (is.filterMap (foldedByte .crc8Upd))) ∧
    (.crc16cInit ∉ is → ∃ t, execAll (.crc16cInit :: is) s = .next t ∧
      t.crc16cAcc = crc16c (is.filterMap (foldedByte .crc16cUpd))) ∧
    (.crc16mInit ∉ is → ∃ t, execAll (.crc16mInit :: is) s = .next t ∧
      t.crc16mAcc = crc16m (is.filterMap (foldedByte .crc16mUpd))) ∧
    (.xorInit ∉ is → ∃ t, execAll (.xorInit :: is) s = .next t ∧
      t.xorAcc = xor8 (is.filterMap (foldedByte .xorUpd)))

/-- R104: the residue of each function over a string and its own checksum. -/
def Obligations.ChecksumResidues : Prop :=
  ∀ s : List Byte,
    crc8 (s ++ [crc8 s]) = 0x00 ∧ crc16c (s ++ be16 (crc16c s)) = 0x0000 ∧ crc16m (s ++ le16 (crc16m s)) = 0x0000 ∧
    xor8 (s ++ [xor8 s]) = 0x00

/-- R104: the values on the empty string, the continuation from a prefix, and that `xor8` ignores the order. -/
def Obligations.ChecksumFoldLaws : Prop :=
  crc8 [] = 0xFF ∧ crc16c [] = 0xFFFF ∧ crc16m [] = 0xFFFF ∧ xor8 [] = 0x00 ∧
  (∀ a b : List Byte, crc8 (a ++ b) = b.foldl crc8Step (crc8 a) ∧ crc16c (a ++ b) = b.foldl crc16cStep (crc16c a) ∧
    crc16m (a ++ b) = b.foldl crc16mStep (crc16m a) ∧ xor8 (a ++ b) = xor8 a ^^^ xor8 b) ∧
  ∀ a b : List Byte, a.Perm b → xor8 a = xor8 b

/-! ### Who may write what: rules over every step -/

/-- R27: an accumulator changes only by its own generator's commands (or by power-on reset). -/
def Obligations.AccumulatorsChangeByTheirCommandsOnly : Prop :=
  ∀ (s t : State), step s = .next t →
    (∃ rest, s.events = .powerReset :: rest) ∨
    (t.crc8Acc = s.crc8Acc ∧ t.crc16cAcc = s.crc16cAcc ∧ t.crc16mAcc = s.crc16mAcc ∧ t.xorAcc = s.xorAcc) ∨
    ∃ v rest i, s.events = .hostWrite 0x000 v :: rest ∧ busy s = false ∧ decode (v.setWidth 16) = .ok i ∧
      (t.crc8Acc ≠ s.crc8Acc → i = .crc8Init ∨ ∃ b, i = .crc8Upd b) ∧
      (t.crc16cAcc ≠ s.crc16cAcc → i = .crc16cInit ∨ ∃ b, i = .crc16cUpd b) ∧
      (t.crc16mAcc ≠ s.crc16mAcc → i = .crc16mInit ∨ ∃ b, i = .crc16mUpd b) ∧
      (t.xorAcc ≠ s.xorAcc → i = .xorInit ∨ ∃ b, i = .xorUpd b)

/-- R26: the block never writes a packet register; one changes only by the host's write to it while idle (or by reset). -/
def Obligations.PacketRegistersChangeByTheHostOnly : Prop :=
  ∀ (s t : State), step s = .next t →
    (∃ rest, s.events = .powerReset :: rest) ∨
    (t.devidLo = s.devidLo ∧ t.devidHi = s.devidHi ∧ t.time = s.time ∧ t.lat = s.lat ∧ t.lon = s.lon) ∨
    ∃ a v rest, s.events = .hostWrite a v :: rest ∧ busy s = false ∧
      (a = 0x008 ∧ t = { s with devidLo := v, events := rest } ∨ a = 0x00C ∧ t = { s with devidHi := v, events := rest } ∨
       a = 0x010 ∧ t = { s with time := v, events := rest } ∨ a = 0x014 ∧ t = { s with lat := v, events := rest } ∨
       a = 0x018 ∧ t = { s with lon := v, events := rest })

/-- R33: `WLN_AUTH` becomes 1 only when the response to the auth line equals `WLN_AUTH_OK`. -/
def Obligations.WialonAuthenticatesByMatchOnly : Prop :=
  ∀ (s t : State), step s = .next t → s.wlnAuth = false → t.wlnAuth = true →
    ∃ r rest, s.events = .readAnswer (.ok r) :: rest ∧ s.pos = .awaitRead .wlnAuth ∧
      r.bytes = [0x23, 0x41, 0x4C, 0x23, 0x31, 0x0D, 0x0A]

/-- R29, R30, R32, R33: an authentication flag is cleared only by constructing its session anew. -/
def Obligations.AuthFlagsClearedByNewSessionOnly : Prop :=
  ∀ (s t : State), step s = .next t →
    (∃ rest, s.events = .powerReset :: rest) ∨
    ∃ q : Option Protocol,
      (∀ p, q = some p → ∃ v rest, s.events = .hostWrite 0x000 v :: rest ∧ busy s = false ∧
        decode (v.setWidth 16) = .ok (.sessNew p)) ∧
      (s.ndtpAuth = true → t.ndtpAuth = false → q = some .ndtp) ∧
      (s.ntcAuth = true → t.ntcAuth = false → q = some .ntc) ∧
      (s.wlnAuth = true → t.wlnAuth = false → q = some .wln)

/-- R29 to R32, R270: each session counter moves by one modulo its width, or is constructed anew. -/
def Obligations.CountersMoveByOne : Prop :=
  ∀ (s t : State), step s = .next t →
    (∃ rest, s.events = .powerReset :: rest) ∨
    ∃ q : Option Protocol,
      (∀ p, q = some p → ∃ v rest, s.events = .hostWrite 0x000 v :: rest ∧ busy s = false ∧
        decode (v.setWidth 16) = .ok (.sessNew p)) ∧
      (t.ndtpPid = s.ndtpPid ∨ t.ndtpPid = s.ndtpPid + 1 ∨ q = some .ndtp ∧ t.ndtpPid = 0) ∧
      (t.egtsPid = s.egtsPid ∧ t.egtsRn = s.egtsRn ∨ t.egtsPid = s.egtsPid + 1 ∧ t.egtsRn = s.egtsRn + 1 ∨
        q = some .egts ∧ t.egtsPid = 0 ∧ t.egtsRn = 0) ∧
      (t.ntcRn = s.ntcRn ∨ t.ntcRn = s.ntcRn + 1 ∨ q = some .ntc ∧ t.ntcRn = 0)

/-- R38: which acts change each status flag. `CODE` changes at a command's end only, by a command of an idle block or
where a running `SEND` ends. -/
def Obligations.StatusFlagsChangeByTheirRules : Prop :=
  ∀ (s t : State), step s = .next t →
    (∃ rest, s.events = .powerReset :: rest) ∨
    (t.ackMatch ≠ s.ackMatch → ∃ v rest k, s.events = .hostWrite 0x000 v :: rest ∧ busy s = false ∧
      decode (v.setWidth 16) = .ok (.ackChk k)) ∧
    (s.ovr = false → t.ovr = true → ∃ a v rest, s.events = .hostWrite a v :: rest ∧ busy s = true ∧
      busyProtected a = true) ∧
    (s.ovr = true → t.ovr = false → ∃ v rest, s.events = .hostWrite 0x004 v :: rest ∧ v.getLsbD 5 = true) ∧
    (s.diagAuth = false → t.diagAuth = true → s.pos = .awaitRead .ndtpAuth) ∧
    (s.diagNav = false → t.diagNav = true → s.pos = .awaitRead .ndtpNav) ∧
    ((s.diagAuth = true ∧ t.diagAuth = false) ∨ (s.diagNav = true ∧ t.diagNav = false) →
      ∃ v rest p, s.events = .hostWrite 0x000 v :: rest ∧ busy s = false ∧ decode (v.setWidth 16) = .ok (.send p)) ∧
    (t.code ≠ s.code →
      (∃ v rest, s.events = .hostWrite 0x000 v :: rest ∧ busy s = false) ∨ busy s = true ∧ busy t = false)

/-! ### The packers -/

/-- R165: the 39-byte frame by its layout table, and what else the command changes. -/
def Obligations.PackNdtpAuthBuildsTheFrame : Prop :=
  decode 0x2000 = .ok .packNdtpa ∧ ∀ s : State, busy s = false →
    ∃ t f p, exec .packNdtpa s = .next t ∧
      p = le16 Config.params.ndtpAuthSvc ++ le16 Config.params.ndtpAuthType ++ le16 Config.params.ndtpAuthNphf ++
        le16 s.ndtpPid ++ [0x00, 0x00] ++ [0x06, 0x02] ++ le16 Config.params.ndtpAuthCaps ++ le32 s.devidLo ++
        le16 Config.params.ndtpAuthMss ++ [0x00, 0x00, 0x00, 0x00] ∧
      f = Config.params.ndtpSig.toList ++ [0x18, 0x00] ++ [0x02, 0x00] ++ be16 (crc16m p) ++ [0x01] ++
        [0x00, 0x00, 0x00, 0x00] ++ le16 s.ndtpPid ++ p ∧
      f = ndtpAuthFrame Config.params s ∧ f.length = 39 ∧ frameBuilt s t f ∧
      t = { s with ndtpPid := s.ndtpPid + 1, code := .ok, frameLen := t.frameLen, mem := t.mem }

/-- R166: the 53-byte frame by its layout table, and what else the command changes. -/
def Obligations.PackNdtpNavBuildsTheFrame : Prop :=
  decode 0x2100 = .ok .packNdtpn ∧
  (∀ s : State, busy s = false → coordsOk s = false → exec .packNdtpn s = .next { s with code := .range }) ∧
  ∀ s : State, busy s = false → coordsOk s = true →
    ∃ t f p, exec .packNdtpn s = .next t ∧
      p = le16 Config.params.ndtpNavSvc ++ le16 Config.params.ndtpNavType ++ le16 Config.params.ndtpNavNphf ++
        le16 s.ndtpPid ++ [0x00, 0x00] ++ [0x00, 0x00] ++ le32 s.time ++
        le32 (BitVec.ofNat 32 s.lon.toInt.natAbs) ++ le32 (BitVec.ofNat 32 s.lat.toInt.natAbs) ++
        [if 0 ≤ s.lon.toInt then 0xE0 else 0x80] ++ List.replicate 13 0x00 ∧
      f = Config.params.ndtpSig.toList ++ [0x26, 0x00] ++ [0x02, 0x00] ++ be16 (crc16m p) ++ [0x01] ++
        [0x00, 0x00, 0x00, 0x00] ++ le16 s.ndtpPid ++ p ∧
      f = ndtpNavFrame Config.params s ∧ f.length = 53 ∧ frameBuilt s t f ∧
      t = { s with ndtpPid := s.ndtpPid + 1, code := .ok, frameLen := t.frameLen, mem := t.mem }

/-- R185: the 48-byte frame by its layout table, and what else the command changes. -/
def Obligations.PackEgtsBuildsTheFrame : Prop :=
  decode 0x2200 = .ok .packEgts ∧
  (∀ s : State, busy s = false → coordsOk s = false → exec .packEgts s = .next { s with code := .range }) ∧
  ∀ s : State, busy s = false → coordsOk s = true →
    ∃ t f h d, exec .packEgts s = .next t ∧
      h = [0x01, 0x00, 0x03, 0x0B, 0x00, 0x23, 0x00] ++ le16 s.egtsPid ++ [0x01] ∧
      d = [0x18, 0x00] ++ le16 s.egtsRn ++ [0x01] ++ le32 s.devidLo ++ [0x02, 0x02, 0x10, 0x15, 0x00] ++
        le32 (BitVec.ofInt 32 (s.time.toNat - 1262304000)) ++
        le32 (BitVec.ofNat 32 (s.lat.toInt.natAbs * 0xFFFFFFFF / 900000000)) ++
        le32 (BitVec.ofNat 32 (s.lon.toInt.natAbs * 0xFFFFFFFF / 1800000000)) ++
        [BitVec.ofNat 8 ((if s.lon.toInt < 0 then 0x40 else 0) + (if s.lat.toInt < 0 then 0x20 else 0) + 0x03)] ++
        List.replicate 8 0x00 ∧
      f = h ++ [crc8 h] ++ d ++ le16 (crc16c d) ∧
      f = egtsFrame s ∧ f.length = 48 ∧ frameBuilt s t f ∧
      t = { s with egtsPid := s.egtsPid + 1, egtsRn := s.egtsRn + 1, code := .ok, frameLen := t.frameLen, mem := t.mem }

/-- R205: the 35-byte frame by its layout table; no counter or flag changes. -/
def Obligations.PackNavtelecomAuthBuildsTheFrame : Prop :=
  decode 0x2300 = .ok .packNtca ∧
  (∀ s : State, busy s = false → devid15Ok s = false → exec .packNtca s = .next { s with code := .range }) ∧
  ∀ s : State, busy s = false → devid15Ok s = true →
    ∃ t f b h, exec .packNtca s = .next t ∧
      b = Config.params.ntcAuthTag.toList ++ dec0 (s.devidHi.toNat * 2 ^ 32 + s.devidLo.toNat) 15 ∧
      h = Config.params.ntcSig.toList ++ [0x01, 0x00, 0x00, 0x00] ++ [0x00, 0x00, 0x00, 0x00] ++ [0x13, 0x00] ++
        [xor8 b] ∧
      f = h ++ [xor8 h] ++ b ∧
      f = ntcAuthFrame Config.params s ∧ f.length = 35 ∧ frameBuilt s t f ∧
      t = { s with code := .ok, frameLen := t.frameLen, mem := t.mem }

/-- R133, R202, R206: the 91-byte frame; the two time blocks (hour, minute, second, day, month, year - 2000 modulo 256) and
the two floats lie at their offsets in the body, and the rest of the body after the record number is zero. -/
def Obligations.PackNavtelecomDataBuildsTheFrame : Prop :=
  decode 0x2400 = .ok .packNtcd ∧
  (∀ s : State, busy s = false → coordsOk s = false → exec .packNtcd s = .next { s with code := .range }) ∧
  ∀ s : State, busy s = false → coordsOk s = true →
    ∃ t f b h ts, exec .packNtcd s = .next t ∧
      ts = [BitVec.ofNat 8 (civil s.time).hour, BitVec.ofNat 8 (civil s.time).minute, BitVec.ofNat 8 (civil s.time).second,
        BitVec.ofNat 8 (civil s.time).day, BitVec.ofNat 8 (civil s.time).month,
        BitVec.ofNat 8 ((((civil s.time).year : Int) - 2000) % 256).toNat] ∧
      h = Config.params.ntcSig.toList ++ [0x01, 0x00, 0x00, 0x00] ++ [0x00, 0x00, 0x00, 0x00] ++ [0x4B, 0x00] ++
        [xor8 b] ∧
      f = h ++ [xor8 h] ++ b ∧ f.length = 91 ∧ b.length = 75 ∧
      slice b 0 9 = Config.params.ntcDataTag.toList ++ [0x02, 0x00] ++ be32 s.ntcRn ∧
      slice b Config.params.ntcLayout.ts1 (Config.params.ntcLayout.ts1 + 6) = ts ∧
      slice b Config.params.ntcLayout.ts2 (Config.params.ntcLayout.ts2 + 6) = ts ∧
      slice b Config.params.ntcLayout.lat (Config.params.ntcLayout.lat + 4) = be32 (f32 s.lat) ∧
      slice b Config.params.ntcLayout.lon (Config.params.ntcLayout.lon + 4) = be32 (f32 s.lon) ∧
      (∀ i, 9 ≤ i → i < 75 →
        ¬(Config.params.ntcLayout.ts1 ≤ i ∧ i < Config.params.ntcLayout.ts1 + 6) →
        ¬(Config.params.ntcLayout.ts2 ≤ i ∧ i < Config.params.ntcLayout.ts2 + 6) →
        ¬(Config.params.ntcLayout.lat ≤ i ∧ i < Config.params.ntcLayout.lat + 4) →
        ¬(Config.params.ntcLayout.lon ≤ i ∧ i < Config.params.ntcLayout.lon + 4) → b.getD i 0 = 0) ∧
      f = ntcDataFrame Config.params s ∧ frameBuilt s t f ∧
      t = { s with ntcRn := s.ntcRn + 1, code := .ok, frameLen := t.frameLen, mem := t.mem }

/-- R220, R224: `#L#`, the decimal device id, `;NA\r\n`; no counter or flag changes. -/
def Obligations.PackWialonAuthBuildsTheLine : Prop :=
  decode 0x2500 = .ok .packWlna ∧ ∀ s : State, busy s = false →
    ∃ t f, exec .packWlna s = .next t ∧
      f = [0x23, 0x4C, 0x23] ++ dec (s.devidHi.toNat * 2 ^ 32 + s.devidLo.toNat) ++ [0x3B, 0x4E, 0x41, 0x0D, 0x0A] ∧
      f.length = 8 + (dec (s.devidHi.toNat * 2 ^ 32 + s.devidLo.toNat)).length ∧ 9 ≤ f.length ∧ f.length ≤ 28 ∧
      f = wlnAuthLine s ∧ frameBuilt s t f ∧ t = { s with code := .ok, frameLen := t.frameLen, mem := t.mem }

/-- R134, R139, R221, R225: the 56-byte data line with its fields written out: the date and time by two digits each, and
each coordinate as |v|·100 degrees in units of 10^-4, rounded half up, 4 or 5 digits, the point and 4 digits; no counter or
flag changes. -/
def Obligations.PackWialonDataBuildsTheLine : Prop :=
  decode 0x2600 = .ok .packWlnd ∧
  (∀ s : State, busy s = false → coordsOk s = false → exec .packWlnd s = .next { s with code := .range }) ∧
  ∀ s : State, busy s = false → coordsOk s = true →
    ∃ t f c qlat qlon, exec .packWlnd s = .next t ∧ c = civil s.time ∧
      qlat = (s.lat.toInt.natAbs + 5) / 10 ∧ qlon = (s.lon.toInt.natAbs + 5) / 10 ∧
      f = [0x23, 0x53, 0x44, 0x23] ++ dec0 c.day 2 ++ dec0 c.month 2 ++ dec0 (c.year % 100) 2 ++ [0x3B] ++
        dec0 c.hour 2 ++ dec0 c.minute 2 ++ dec0 c.second 2 ++ [0x3B] ++
        dec0 (qlat / 10000) 4 ++ [0x2E] ++ dec0 (qlat % 10000) 4 ++ [0x3B] ++
        [if 0 ≤ s.lat.toInt then 0x4E else 0x53] ++ [0x3B] ++
        dec0 (qlon / 10000) 5 ++ [0x2E] ++ dec0 (qlon % 10000) 4 ++ [0x3B] ++
        [if 0 ≤ s.lon.toInt then 0x45 else 0x57] ++
        [0x3B, 0x4E, 0x41, 0x3B, 0x4E, 0x41, 0x3B, 0x4E, 0x41, 0x3B, 0x4E, 0x41, 0x0D, 0x0A] ∧
      f = wlnDataLine s ∧ f.length = 56 ∧ frameBuilt s t f ∧
      t = { s with code := .ok, frameLen := t.frameLen, mem := t.mem }

/-- R130, R302: the two range predicates, and that a pack whose input is out of range writes `E_RANGE` and nothing
else. -/
def Obligations.OutOfRangePacksWriteOnlyTheCode : Prop :=
  ∀ s : State,
    (coordsOk s = true ↔
      -900000000 ≤ s.lat.toInt ∧ s.lat.toInt ≤ 900000000 ∧ -1800000000 ≤ s.lon.toInt ∧ s.lon.toInt ≤ 1800000000) ∧
    (devid15Ok s = true ↔ s.devidHi.toNat * 2 ^ 32 + s.devidLo.toNat < 10 ^ 15) ∧
    (busy s = false → coordsOk s = false →
      ∀ i ∈ [Instr.packNdtpn, .packEgts, .packNtcd, .packWlnd], exec i s = .next { s with code := .range }) ∧
    (busy s = false → devid15Ok s = false → exec .packNtca s = .next { s with code := .range })

/-- R114, R167, R186, R204: the stored checks and lengths of every frame the NDTP, EGTS and Navtelecom packers build. -/
def Obligations.FrameChecksAgreeWithTheirBytes : Prop :=
  (∀ k s t f, ndtpBuild k s = some (t, f) →
    slice f 2 4 = le16 (BitVec.ofNat 16 (f.length - 15)) ∧ slice f 6 8 = be16 (crc16m (slice f 15 f.length)) ∧
    slice f 13 15 = slice f 21 23 ∧ slice f 23 25 = [0x00, 0x00]) ∧
  (∀ s t f, egtsBuild s = some (t, f) →
    slice f 10 11 = [crc8 (slice f 0 10)] ∧ slice f 46 48 = le16 (crc16c (slice f 11 46))) ∧
  ∀ k s t f, ntcBuild k s = some (t, f) →
    slice f 12 14 = le16 (BitVec.ofNat 16 (f.length - 16)) ∧ slice f 14 15 = [xor8 (slice f 16 f.length)] ∧
    slice f 15 16 = [xor8 (slice f 0 15)] ∧ xor8 (slice f 0 16) = 0x00

/-- R164, R184, R203, R220, R221: the lengths of the frames; none is longer than `FRAME_CAP` (R8). -/
def Obligations.FrameLengths : Prop :=
  ∀ s t f,
    (ndtpBuild .auth s = some (t, f) → f.length = 39) ∧ (ndtpBuild .data s = some (t, f) → f.length = 53) ∧
    (egtsBuild s = some (t, f) → f.length = 48) ∧
    (ntcBuild .auth s = some (t, f) → f.length = 35) ∧ (ntcBuild .data s = some (t, f) → f.length = 91) ∧
    (wlnBuild .auth s = some (t, f) → 9 ≤ f.length ∧ f.length ≤ 28) ∧
    (wlnBuild .data s = some (t, f) → f.length = 56)

/-! ### Field encoders -/

/-- R131: `dec(n)` is digits only, has no leading zero, reads back as `n` and has 1 to 20 characters for a u64;
`dec0(n, w)` is `dec(n)` behind `'0'` characters, `w` in all. -/
def Obligations.DecimalTextIsTheNumber : Prop :=
  (∀ n : Nat, (∀ b ∈ dec n, 0x30 ≤ b.toNat ∧ b.toNat ≤ 0x39) ∧ (n ≠ 0 → (dec n).head? ≠ some 0x30) ∧
    (dec n).foldl (fun a b => 10 * a + (b.toNat - 0x30)) 0 = n ∧
    (n < 2 ^ 64 → 1 ≤ (dec n).length ∧ (dec n).length ≤ 20)) ∧
  dec 0 = [0x30] ∧
  ∀ n w : Nat, 0 < w → n < 10 ^ w →
    (dec0 n w).length = w ∧ ∃ k, dec0 n w = List.replicate k 0x30 ++ dec n

/-- R132: the fields are a date of the proleptic Gregorian calendar and a time of day, and both count back to `t`: the
days since 1970-01-01 are the days of the years before (477 leap years before 1970), of the months before, with the leap
day, and of the month so far. -/
def Obligations.CivilDateIsTheDateOfTheInstant : Prop :=
  ∀ t : Word, ∃ y m d, (civil t).year = y ∧ (civil t).month = m ∧ (civil t).day = d ∧
    1970 ≤ y ∧ y ≤ 2106 ∧ 1 ≤ m ∧ m ≤ 12 ∧ 1 ≤ d ∧
    d ≤ [31, 28, 31, 30, 31, 30, 31, 31, 30, 31, 30, 31].getD (m - 1) 0 +
      (if m = 2 ∧ y % 4 = 0 ∧ (y % 100 ≠ 0 ∨ y % 400 = 0) then 1 else 0) ∧
    t.toNat / 86400 = 365 * (y - 1970) + ((y - 1) / 4 - (y - 1) / 100 + (y - 1) / 400 - 477) +
      [0, 31, 59, 90, 120, 151, 181, 212, 243, 273, 304, 334].getD (m - 1) 0 +
      (if 2 < m ∧ y % 4 = 0 ∧ (y % 100 ≠ 0 ∨ y % 400 = 0) then 1 else 0) + (d - 1) ∧
    (civil t).hour < 24 ∧ (civil t).minute < 60 ∧ (civil t).second < 60 ∧
    t.toNat % 86400 = 3600 * (civil t).hour + 60 * (civil t).minute + (civil t).second

/-- R137: the EGTS fraction is the floor of the exact quotient, 0 at zero and 0xFFFFFFFF at the limit. -/
def Obligations.EgtsFractionIsTheFloor : Prop :=
  ∀ (v : Word) (d : Nat), d = 900000000 ∨ d = 1800000000 → v.toInt.natAbs ≤ d →
    (egtsFrac v d).toNat * d ≤ v.toInt.natAbs * 0xFFFFFFFF ∧
    v.toInt.natAbs * 0xFFFFFFFF < ((egtsFrac v d).toNat + 1) * d ∧
    (v.toInt.natAbs = d → egtsFrac v d = 0xFFFFFFFF) ∧ (v = 0 → egtsFrac v d = 0)

/-- R138: the float is +0 for 0; else it has the coordinate's sign, a normal exponent e and fraction m, and its value
(2^23 + m)·2^(e - 150) is the binary32 number nearest to |v|/10^7, with an even fraction at a tie. `x` and `y` are the
exact magnitude and the float's, both times 2^150·10^7, and `u` is the unit in the last place at e. The float below a power
of two (m = 0) is only half a unit away, so from below the error is at most a quarter unit there. -/
def Obligations.Binary32IsCorrectlyRounded : Prop :=
  f32 0 = 0 ∧
  ∀ v : Word, v ≠ 0 → v.toInt.natAbs ≤ 1800000000 →
    ∃ e m x y u : Nat, e = ((f32 v).extractLsb' 23 8).toNat ∧ m = ((f32 v).extractLsb' 0 23).toNat ∧
      x = v.toInt.natAbs * 2 ^ 150 ∧ u = 2 ^ e * 10 ^ 7 ∧ y = (2 ^ 23 + m) * u ∧
      (f32 v).msb = decide (v.toInt < 0) ∧ 1 ≤ e ∧ e ≤ 254 ∧
      2 * ((y : Int) - (x : Int)).natAbs ≤ u ∧
      (m = 0 → x < y → 4 * (y - x) ≤ u) ∧
      (2 * ((y : Int) - (x : Int)).natAbs = u → m % 2 = 0)

/-! ### The validator -/

/-- R83, R240 to R242, with the encoding and the templates' numbers: `ACK_MATCH` is 1 exactly where the response has the
template's length and bytes. Bytes of `RX` at index ≥ `RX_LEN` play no part, and an empty response never matches. The
decoder refuses the numbers 6 and 7; that `exec` of these ill-formed commands, which no word decodes to, writes `E_ILLEGAL`
alone is the model's choice (log entry 11). -/
def Obligations.AckChkComparesByteExact : Prop :=
  ∀ (s : State) (k : BitVec 3), busy s = false →
    (∀ T, templateOf Config.params k = some T →
      ∃ m, exec (.ackChk k) s = .next { s with ackMatch := m, code := .ok } ∧
        (m = true ↔ s.rxLen.toNat = T.length ∧ ∀ i < T.length, s.mem.read (rxBase + 4 * i) = T.getD i 0) ∧
        (s.rxLen = 0 → m = false)) ∧
    (k.toNat ≤ 5 → (templateOf Config.params k).isSome = true ∧
      decode (BitVec.ofNat 16 (0x3000 + k.toNat)) = .ok (.ackChk k)) ∧
    (5 < k.toNat → exec (.ackChk k) s = .next { s with code := .illegal } ∧
      decode (BitVec.ofNat 16 (0x3000 + k.toNat)) = .error .operandK) ∧
    templateOf Config.params 0 = some Config.params.ndtpNack.bytes ∧
    templateOf Config.params 1 = some Config.params.egtsAck.bytes ∧
    templateOf Config.params 2 = some Config.params.ntcAuthOk.bytes ∧
    templateOf Config.params 3 = some Config.params.ntcDataOk.bytes ∧
    templateOf Config.params 4 = some [0x23, 0x41, 0x4C, 0x23, 0x31, 0x0D, 0x0A] ∧
    templateOf Config.params 5 = some [0x23, 0x41, 0x53, 0x44, 0x23, 0x31, 0x0D, 0x0A]

/-- R245: a response that differs from the template in exactly one byte is no match: fatal, but for NDTP's frames, where
it sets no diagnostic and the call goes on (with the packet in range, as `SendConsistent` has it inside a `SEND`). -/
def Obligations.OneWrongByteIsAMismatch : Prop :=
  ∀ (s : State) (leg : Leg) (r : Response) (rest : List Event) (i : Nat) (b : Byte),
    s.pos = .awaitRead leg → s.events = .readAnswer (.ok r) :: rest →
    i < (legTemplate Config.params leg).length → b ≠ (legTemplate Config.params leg).getD i 0 →
    r.bytes = (legTemplate Config.params leg).set i b →
    ackEq r.bytes (legTemplate Config.params leg) = false ∧
    ∃ t, step s = .next t ∧ (isNdtpLeg leg = false → t.code = .validation ∧ busy t = false) ∧
      (isNdtpLeg leg = true → t.diagAuth = s.diagAuth ∧ t.diagNav = s.diagNav ∧
        (t.code = .validation → s.code = .validation)) ∧
      (coordsOk s = true → leg = .ndtpAuth →
        t.pos = .awaitWrite .ndtpNav (ndtpNavFrame Config.params s) ∧ t.code = s.code) ∧
      (coordsOk s = true → leg = .ndtpNav → t.pos = .idle ∧ t.code = .ok)

/-! ### `SEND`: its command step -/

/-- R263 up to the first transport write: the handshake frame exactly where `NDTP_PID` = 0. -/
def Obligations.SendNdtpStarts : Prop :=
  ∀ s : State, busy s = false → coordsOk s = true →
    ∃ t, exec (.send .ndtp) s = .next t ∧
      (s.ndtpPid = 0 → sendStarted s t .ndtpAuth (ndtpAuthFrame Config.params s) ∧ t.ndtpAuth = true) ∧
      (s.ndtpPid ≠ 0 → sendStarted s t .ndtpNav (ndtpNavFrame Config.params s) ∧ t.ndtpAuth = s.ndtpAuth) ∧
      t = { s with ndtpPid := s.ndtpPid + 1, ndtpAuth := t.ndtpAuth, txCount := 0, tx0Len := 0, tx1Len := 0,
                   diagAuth := false, diagNav := false, frameLen := t.frameLen, mem := t.mem, pos := t.pos }

/-- R264 up to its transport write. -/
def Obligations.SendEgtsStarts : Prop :=
  ∀ s : State, busy s = false → coordsOk s = true →
    ∃ t, exec (.send .egts) s = .next t ∧ sendStarted s t .egts (egtsFrame s) ∧
      t = { s with egtsPid := s.egtsPid + 1, egtsRn := s.egtsRn + 1, txCount := 0, tx0Len := 0, tx1Len := 0,
                   diagAuth := false, diagNav := false, frameLen := t.frameLen, mem := t.mem, pos := t.pos }

/-- R265 up to the first transport write: `NTC_AUTH` is set before the write (preserved defect (c)), and `DEVID` is
checked only where a handshake is due. -/
def Obligations.SendNavtelecomStarts : Prop :=
  ∀ s : State, busy s = false → coordsOk s = true → (s.ntcAuth = true ∨ devid15Ok s = true) →
    ∃ t, exec (.send .ntc) s = .next t ∧
      (s.ntcAuth = false → sendStarted s t .ntcAuth (ntcAuthFrame Config.params s) ∧ t.ntcRn = s.ntcRn) ∧
      (s.ntcAuth = true → sendStarted s t .ntcData (ntcDataFrame Config.params s) ∧ t.ntcRn = s.ntcRn + 1) ∧
      t = { s with ntcRn := t.ntcRn, ntcAuth := true, txCount := 0, tx0Len := 0, tx1Len := 0,
                   diagAuth := false, diagNav := false, frameLen := t.frameLen, mem := t.mem, pos := t.pos }

/-- R266 up to the first transport write: `WLN_AUTH` is not set by building or writing the auth line. -/
def Obligations.SendWialonStarts : Prop :=
  ∀ s : State, busy s = false → coordsOk s = true →
    ∃ t, exec (.send .wln) s = .next t ∧
      (s.wlnAuth = false → sendStarted s t .wlnAuth (wlnAuthLine s)) ∧
      (s.wlnAuth = true → sendStarted s t .wlnData (wlnDataLine s)) ∧
      t = { s with txCount := 0, tx0Len := 0, tx1Len := 0,
                   diagAuth := false, diagNav := false, frameLen := t.frameLen, mem := t.mem, pos := t.pos }

/-- R260, R304: a `SEND` whose range check fails writes `E_RANGE` and nothing else; the log is not cleared. -/
def Obligations.OutOfRangeSendWritesOnlyTheCode : Prop :=
  ∀ s : State, busy s = false →
    (coordsOk s = false → ∀ p, exec (.send p) s = .next { s with code := .range }) ∧
    (s.ntcAuth = false → devid15Ok s = false → exec (.send .ntc) s = .next { s with code := .range })

/-! ### `SEND`: the transport's answers -/

/-- R260, R300, R305: a failed or short write and a failed read end the `SEND` with `E_TRANSPORT`; the frame of a failed
write is not logged and nothing is rolled back. -/
def Obligations.TransportErrorsEndTheSend : Prop :=
  ∀ (s : State) (leg : Leg) (rest : List Event),
    (∀ f w, s.pos = .awaitWrite leg f → s.events = .writeAnswer w :: rest → w ≠ .ok f.length →
      step s = .next { s with code := .transport, pos := .idle, events := rest }) ∧
    (s.pos = .awaitRead leg → s.events = .readAnswer .err :: rest →
      step s = .next { s with code := .transport, pos := .idle, events := rest })

/-- R37, R260: a frame whose write succeeded is logged in `TX[TXCOUNT]`, and the blocking read is next. -/
def Obligations.WrittenFramesAreLogged : Prop :=
  ∀ (s : State) (leg : Leg) (f : List Byte) (rest : List Event), s.pos = .awaitWrite leg f →
    s.events = .writeAnswer (.ok f.length) :: rest → f.length ≤ Config.frameCap → s.txCount.toNat ≤ 1 →
    ∃ t, step s = .next t ∧
      (s.txCount = 0 → t.tx0Len.toNat = f.length ∧ bufferHolds t.mem tx0Base Config.frameCap f ∧ t.tx1Len = s.tx1Len ∧
        ∀ a, outside tx0Base Config.frameCap a → t.mem.read a = s.mem.read a) ∧
      (s.txCount = 1 → t.tx1Len.toNat = f.length ∧ bufferHolds t.mem tx1Base Config.frameCap f ∧ t.tx0Len = s.tx0Len ∧
        ∀ a, outside tx1Base Config.frameCap a → t.mem.read a = s.mem.read a) ∧
      t = { s with txCount := s.txCount + 1, tx0Len := t.tx0Len, tx1Len := t.tx1Len, mem := t.mem,
                   pos := .awaitRead leg, events := rest }

/-- R36, R260: whatever the response decides, `RX` holds it, zero-filled. -/
def Obligations.ResponsesAreStoredInRx : Prop :=
  ∀ (s : State) (leg : Leg) (r : Response) (rest : List Event), s.pos = .awaitRead leg →
    s.events = .readAnswer (.ok r) :: rest →
    ∃ t, step s = .next t ∧ t.rxLen.toNat = r.bytes.length ∧ bufferHolds t.mem rxBase Config.rxCap r.bytes ∧
      t.mem.bytes rxBase t.rxLen.toNat = r.bytes

/-- R243: the policy table, row by row. `go` says that the `SEND` continues with its data frame. -/
def Obligations.ResponsePolicyTable : Prop :=
  ∀ (s : State) (leg : Leg) (r : Response) (rest : List Event), s.pos = .awaitRead leg → coordsOk s = true →
    s.events = .readAnswer (.ok r) :: rest →
    ∃ t, step s = .next t ∧
      (leg = .ndtpAuth → (t.diagAuth = true ↔ s.diagAuth = true ∨ r.bytes = Config.params.ndtpNack.bytes) ∧
        t.pos = .awaitWrite .ndtpNav (ndtpNavFrame Config.params s) ∧ t.code = s.code) ∧
      (leg = .ndtpNav → (t.diagNav = true ↔ s.diagNav = true ∨ r.bytes = Config.params.ndtpNack.bytes) ∧
        t.pos = .idle ∧ t.code = .ok) ∧
      (leg = .egts → t.pos = .idle ∧
        t.code = if r.bytes = Config.params.egtsAck.bytes then .ok else .validation) ∧
      (leg = .ntcAuth → t.ntcAuth = s.ntcAuth ∧
        (r.bytes ≠ Config.params.ntcAuthOk.bytes → t.pos = .idle ∧ t.code = .validation ∧ t.ntcRn = s.ntcRn) ∧
        (r.bytes = Config.params.ntcAuthOk.bytes →
          t.pos = .awaitWrite .ntcData (ntcDataFrame Config.params s) ∧ t.code = s.code ∧ t.ntcRn = s.ntcRn + 1)) ∧
      (leg = .ntcData → t.pos = .idle ∧
        t.code = if r.bytes = Config.params.ntcDataOk.bytes then .ok else .validation) ∧
      (leg = .wlnAuth →
        (r.bytes ≠ Config.wlnAuthOk → t.pos = .idle ∧ t.code = .validation ∧ t.wlnAuth = s.wlnAuth) ∧
        (r.bytes = Config.wlnAuthOk →
          t.pos = .awaitWrite .wlnData (wlnDataLine s) ∧ t.code = s.code ∧ t.wlnAuth = true)) ∧
      (leg = .wlnData → t.pos = .idle ∧ t.wlnAuth = s.wlnAuth ∧
        t.code = if r.bytes = Config.wlnDataOk then .ok else .validation)

/-! ### `SEND`: whole calls -/

/-- R266, R267: a whole Wialon call with a handshake, from the `CMD` write to `finish`, for every pair of responses.
The steps are counted by log entry 10. -/
def Obligations.WialonSendFromStartToFinish : Prop :=
  ∀ (s : State) (v : Word) (r1 : Response), busy s = false → coordsOk s = true → s.wlnAuth = false →
    v.setWidth 16 = 0x0203 →
    (∀ (r2 : Response) (rest : List Event), r1.bytes = Config.wlnAuthOk →
      s.events = .hostWrite 0x000 v :: .writeAnswer (.ok (wlnAuthLine s).length) :: .readAnswer (.ok r1) ::
        .writeAnswer (.ok (wlnDataLine s).length) :: .readAnswer (.ok r2) :: rest →
      ∃ t, runSteps 5 s = .next t ∧ t.events = rest ∧ busy t = false ∧ t.wlnAuth = true ∧ t.txCount = 2 ∧
        t.code = (if r2.bytes = Config.wlnDataOk then .ok else .validation) ∧
        t.mem.bytes tx0Base t.tx0Len.toNat = wlnAuthLine s ∧ t.mem.bytes tx1Base t.tx1Len.toNat = wlnDataLine s) ∧
    (∀ rest : List Event, r1.bytes ≠ Config.wlnAuthOk →
      s.events = .hostWrite 0x000 v :: .writeAnswer (.ok (wlnAuthLine s).length) :: .readAnswer (.ok r1) :: rest →
      ∃ t, runSteps 3 s = .next t ∧ t.events = rest ∧ busy t = false ∧ t.wlnAuth = false ∧ t.txCount = 1 ∧
        t.code = .validation ∧ t.mem.bytes tx0Base t.tx0Len.toNat = wlnAuthLine s ∧ t.tx1Len = 0)

/-- R265, R267 (preserved defect (c)): a failed Navtelecom handshake ends the call with `E_VALIDATION` and `NTC_AUTH` =
1, and the next `SEND NTC` writes only the data frame. The steps are counted by log entry 10. -/
def Obligations.FailedNavtelecomHandshakeAuthenticates : Prop :=
  ∀ (s : State) (v v' : Word) (r1 : Response) (rest : List Event), busy s = false → coordsOk s = true →
    devid15Ok s = true → s.ntcAuth = false → v.setWidth 16 = 0x0202 → v'.setWidth 16 = 0x0202 →
    r1.bytes ≠ Config.params.ntcAuthOk.bytes →
    s.events = .hostWrite 0x000 v :: .writeAnswer (.ok (ntcAuthFrame Config.params s).length) ::
      .readAnswer (.ok r1) :: .hostWrite 0x000 v' :: rest →
    (∃ t, runSteps 3 s = .next t ∧ busy t = false ∧ t.code = .validation ∧ t.txCount = 1 ∧ t.ntcAuth = true ∧
      t.ntcRn = s.ntcRn ∧ t.mem.bytes tx0Base t.tx0Len.toNat = ntcAuthFrame Config.params s) ∧
    ∃ t, runSteps 4 s = .next t ∧ t.pos = .awaitWrite .ntcData (ntcDataFrame Config.params s) ∧ t.txCount = 0 ∧
      t.ntcRn = s.ntcRn + 1 ∧ t.events = rest

/-- R263, R267, R303: only a response to a frame of another protocol makes a step end with `E_VALIDATION`; and a whole
NDTP call whose writes are accepted ends with `OK` whatever the responses are, which only set the diagnostics: a call with
`NDTP_PID` = 0 writes two frames, any other writes one. The steps are counted by log entry 10. -/
def Obligations.NdtpSendNeverFailsValidation : Prop :=
  (∀ s t : State, step s = .next t → t.code = .validation → s.code = .validation ∨
    ∃ leg r rest, s.pos = .awaitRead leg ∧ isNdtpLeg leg = false ∧ s.events = .readAnswer (.ok r) :: rest) ∧
  (∀ (s : State) (v : Word) (r1 r2 : Response) (rest : List Event), busy s = false → coordsOk s = true →
    s.ndtpPid = 0 → v.setWidth 16 = 0x0200 →
    s.events = .hostWrite 0x000 v :: .writeAnswer (.ok 39) :: .readAnswer (.ok r1) ::
      .writeAnswer (.ok 53) :: .readAnswer (.ok r2) :: rest →
    ∃ t, runSteps 5 s = .next t ∧ t.events = rest ∧ busy t = false ∧ t.code = .ok ∧ t.txCount = 2 ∧ t.ndtpPid = 2 ∧
      t.ndtpAuth = true ∧ (t.diagAuth = true ↔ r1.bytes = Config.params.ndtpNack.bytes) ∧
      (t.diagNav = true ↔ r2.bytes = Config.params.ndtpNack.bytes) ∧
      t.mem.bytes tx0Base t.tx0Len.toNat = ndtpAuthFrame Config.params s ∧
      t.mem.bytes tx1Base t.tx1Len.toNat = ndtpNavFrame Config.params { s with ndtpPid := 1 }) ∧
  ∀ (s : State) (v : Word) (r : Response) (rest : List Event), busy s = false → coordsOk s = true →
    s.ndtpPid ≠ 0 → v.setWidth 16 = 0x0200 →
    s.events = .hostWrite 0x000 v :: .writeAnswer (.ok 53) :: .readAnswer (.ok r) :: rest →
    ∃ t, runSteps 3 s = .next t ∧ t.events = rest ∧ busy t = false ∧ t.code = .ok ∧ t.txCount = 1 ∧
      t.ndtpPid = s.ndtpPid + 1 ∧ t.ndtpAuth = s.ndtpAuth ∧ t.diagAuth = false ∧
      (t.diagNav = true ↔ r.bytes = Config.params.ndtpNack.bytes) ∧
      t.mem.bytes tx0Base t.tx0Len.toNat = ndtpNavFrame Config.params s ∧ t.tx1Len = 0

/-- R244, R264, R267: a whole EGTS call compares with the one fixed template whatever ids the frame carried, and the
counters have moved in both outcomes. The steps are counted by log entry 10. -/
def Obligations.EgtsSendComparesWithOneTemplate : Prop :=
  ∀ (s : State) (v : Word) (r : Response) (rest : List Event), busy s = false → coordsOk s = true →
    v.setWidth 16 = 0x0201 →
    s.events = .hostWrite 0x000 v :: .writeAnswer (.ok 48) :: .readAnswer (.ok r) :: rest →
    ∃ t, runSteps 3 s = .next t ∧ t.events = rest ∧ busy t = false ∧ t.txCount = 1 ∧
      t.code = (if r.bytes = Config.params.egtsAck.bytes then .ok else .validation) ∧
      t.egtsPid = s.egtsPid + 1 ∧ t.egtsRn = s.egtsRn + 1 ∧
      t.mem.bytes tx0Base t.tx0Len.toNat = egtsFrame s ∧ t.tx1Len = 0

/-! ### Invariants -/

/-- The memory keeps its canonical form and lists bytes of the buffers only (R22, R62): an invariant of the model's own
form of the memory (log entry 12). -/
def Obligations.StepKeepsCanonicalMemory : Prop :=
  ∀ s t : State, CanonicalMemory s → step s = .next t → CanonicalMemory t

/-- R35, R37: the lengths fit and the frame and log buffers stay zero after their length. -/
def Obligations.StepKeepsBuffersFilled : Prop :=
  ∀ s t : State, BuffersFilled s → step s = .next t → BuffersFilled t

/-- R26, R35, R260, R267: the position inside a `SEND` stays consistent with the packet, `FRAME`, the flags and the log. -/
def Obligations.StepKeepsSendConsistent : Prop :=
  ∀ s t : State, SendConsistent s → step s = .next t → SendConsistent t

/-- R41: the state after reset meets the three invariants. -/
def Obligations.ResetMeetsTheInvariants : Prop :=
  CanonicalMemory State.reset ∧ BuffersFilled State.reset ∧ SendConsistent State.reset

end Statements
end

