-- ==== Sys2Proof/Laws/Memory.lean ====
section
/-! SUPPORT. The memory operations keep the canonical form, and what a read sees after each of them. -/

namespace Sys2Proof.Machine

theorem Memory.wf_nil : Memory.wf [] := ⟨.nil, by simp⟩

theorem Memory.wf_cons {c : Host.Cell} {m : Memory} :
    Memory.wf (c :: m) ↔ (∀ d ∈ m, c.1 < d.1) ∧ c.2 ≠ 0 ∧ Memory.wf m := by
  simp only [Memory.wf, List.pairwise_cons, List.mem_cons, forall_eq_or_imp]
  tauto

@[simp] theorem Memory.read_nil (a : Nat) : Memory.read [] a = 0 := rfl

theorem Memory.read_cons (c : Host.Cell) (m : Memory) (a : Nat) :
    Memory.read (c :: m) a = if c.1 = a then c.2 else m.read a := rfl

/-- An address that no cell lists reads 0. -/
theorem Memory.read_eq_zero {m : Memory} {a : Nat} (h : ∀ c ∈ m, c.1 ≠ a) : m.read a = 0 := by
  induction m with
  | nil => rfl
  | cons c m ih =>
    rw [read_cons, if_neg (h c (by simp))]
    exact ih fun d hd => h d (by simp [hd])

theorem Memory.read_append (m n : Memory) (a : Nat) (h : ∀ c ∈ m, c.1 ≠ a) : (m ++ n).read a = n.read a := by
  induction m with
  | nil => rfl
  | cons c m ih =>
    rw [List.cons_append, read_cons, if_neg (h c (by simp))]
    exact ih fun d hd => h d (by simp [hd])

theorem Memory.read_append_left (m n : Memory) (a : Nat) (h : ∀ c ∈ n, c.1 ≠ a) : (m ++ n).read a = m.read a := by
  induction m with
  | nil => exact read_eq_zero h
  | cons c m ih => rw [List.cons_append, read_cons, read_cons, ih]

theorem Memory.read_filter (m : Memory) (p : Nat → Bool) (a : Nat) (h : p a = true) :
    Memory.read (m.filter fun c => p c.1) a = m.read a := by
  induction m with
  | nil => rfl
  | cons c m ih =>
    by_cases hc : c.1 = a
    · subst hc
      rw [List.filter_cons_of_pos (by simpa using h), read_cons, read_cons, if_pos rfl, if_pos rfl]
    · rw [read_cons, if_neg hc, List.filter_cons]
      split
      · rw [read_cons, if_neg hc, ih]
      · exact ih

/-! ### `write` -/

theorem Memory.mem_write {m : Memory} {a : Nat} {b : Byte} {d : Host.Cell} (h : d ∈ m.write a b) :
    d ∈ m ∨ d = (a, b) ∧ b ≠ 0 := by
  induction m with
  | nil =>
    simp only [Memory.write] at h
    split at h <;> simp_all
  | cons c m ih =>
    simp only [Memory.write] at h
    split_ifs at h with h1 h2 h3 h4
    · exact .inl h
    · rcases List.mem_cons.mp h with h | h
      · exact .inr ⟨h, h2⟩
      · exact .inl h
    · exact .inl (by simp [h])
    · rcases List.mem_cons.mp h with h | h
      · exact .inr ⟨h, h4⟩
      · exact .inl (by simp [h])
    · rcases List.mem_cons.mp h with h | h
      · exact .inl (by simp [h])
      · rcases ih h with h | h
        · exact .inl (by simp [h])
        · exact .inr h

/-- A byte store keeps the canonical form. -/
theorem Memory.wf_write {m : Memory} (h : Memory.wf m) (a : Nat) (b : Byte) : Memory.wf (m.write a b) := by
  induction m with
  | nil =>
    simp only [Memory.write]
    split
    · exact wf_nil
    · exact wf_cons.mpr ⟨by simp, by assumption, wf_nil⟩
  | cons c m ih =>
    obtain ⟨hlt, hne, hm⟩ := wf_cons.mp h
    simp only [Memory.write]
    split_ifs with h1 h2 h3 h4
    · exact h
    · refine wf_cons.mpr ⟨fun d hd => ?_, h2, h⟩
      rcases List.mem_cons.mp hd with rfl | hd
      · exact h1
      · exact lt_trans h1 (hlt d hd)
    · exact hm
    · subst h3
      exact wf_cons.mpr ⟨hlt, h4, hm⟩
    · refine wf_cons.mpr ⟨fun d hd => ?_, hne, ih hm⟩
      rcases mem_write hd with hd | ⟨rfl, -⟩
      · exact hlt d hd
      · change c.1 < a
        omega

/-- A read elsewhere does not see a byte store. -/
theorem Memory.read_write_other (m : Memory) {a a' : Nat} (b : Byte) (h : a' ≠ a) :
    (m.write a b).read a' = m.read a' := by
  induction m with
  | nil =>
    simp only [Memory.write]
    split
    · rfl
    · simp [read_cons, Ne.symm h]
  | cons c m ih =>
    simp only [Memory.write]
    split_ifs with h1 h2 h3 h4
    · rfl
    · simp [read_cons, Ne.symm h]
    · subst h3
      simp [read_cons, Ne.symm h]
    · subst h3
      simp [read_cons, Ne.symm h]
    · simp [read_cons, ih]

/-- A read sees the byte stored. -/
theorem Memory.read_write_same {m : Memory} (hm : Memory.wf m) (a : Nat) (b : Byte) : (m.write a b).read a = b := by
  induction m with
  | nil =>
    simp only [Memory.write]
    split <;> simp_all [read_cons]
  | cons c m ih =>
    obtain ⟨hlt, hne, hm⟩ := wf_cons.mp hm
    simp only [Memory.write]
    split_ifs with h1 h2 h3 h4
    · subst h2
      refine read_eq_zero fun d hd => ?_
      rcases List.mem_cons.mp hd with rfl | hd
      · omega
      · have := hlt d hd
        omega
    · simp [read_cons]
    · subst h4
      refine read_eq_zero fun d hd => ?_
      have := hlt d hd
      omega
    · simp [read_cons]
    · rw [read_cons, if_neg (Ne.symm h3), ih hm]

/-! ### `fill` -/

theorem mem_cellsFrom {a : Nat} {bs : List Byte} {c : Host.Cell} (h : c ∈ cellsFrom a bs) :
    a ≤ c.1 ∧ c.1 < a + 4 * bs.length ∧ c.1 % 4 = a % 4 ∧ c.2 ≠ 0 := by
  induction bs generalizing a with
  | nil => simp [cellsFrom] at h
  | cons b bs ih =>
    simp only [cellsFrom] at h
    simp only [List.length_cons]
    split_ifs at h with hb
    · obtain ⟨h1, h2, h3, h4⟩ := ih h
      exact ⟨by omega, by omega, by omega, h4⟩
    · rcases List.mem_cons.mp h with rfl | h
      · exact ⟨le_refl _, by simp, rfl, hb⟩
      · obtain ⟨h1, h2, h3, h4⟩ := ih h
        exact ⟨by omega, by omega, by omega, h4⟩

theorem wf_cellsFrom (a : Nat) (bs : List Byte) : Memory.wf (cellsFrom a bs) := by
  induction bs generalizing a with
  | nil => exact Memory.wf_nil
  | cons b bs ih =>
    simp only [cellsFrom]
    split_ifs with hb
    · exact ih _
    · refine Memory.wf_cons.mpr ⟨fun d hd => ?_, hb, ih _⟩
      have := mem_cellsFrom hd
      change a < d.1
      omega

theorem read_cellsFrom (a : Nat) (bs : List Byte) (i : Nat) :
    Memory.read (cellsFrom a bs) (a + 4 * i) = bs.getD i 0 := by
  induction bs generalizing a i with
  | nil => simp [cellsFrom]
  | cons b bs ih =>
    cases i with
    | zero =>
      simp only [cellsFrom]
      split_ifs with hb
      · subst hb
        simp only [Nat.mul_zero, Nat.add_zero, List.getD_cons_zero]
        refine Memory.read_eq_zero fun c hc => ?_
        have := mem_cellsFrom hc
        omega
      · simp [Memory.read_cons]
    | succ i =>
      have e : a + 4 * (i + 1) = a + 4 + 4 * i := by omega
      simp only [cellsFrom, List.getD_cons_succ]
      split_ifs with hb
      · rw [e, ih]
      · rw [Memory.read_cons, if_neg (by simp), e, ih]

theorem mem_fill {m : Memory} {base cap : Nat} {bs : List Byte} {c : Host.Cell} (h : c ∈ m.fill base cap bs) :
    (c ∈ m ∧ (c.1 < base ∨ base + 4 * cap ≤ c.1)) ∨ c ∈ cellsFrom base (bs.take cap) := by
  simp only [Memory.fill, List.mem_append, List.mem_filter, decide_eq_true_eq] at h
  tauto

/-- Replacing a buffer keeps the canonical form. -/
theorem Memory.wf_fill {m : Memory} (h : Memory.wf m) (base cap : Nat) (bs : List Byte) :
    Memory.wf (m.fill base cap bs) := by
  have hc := wf_cellsFrom base (bs.take cap)
  have hlen : (bs.take cap).length ≤ cap := List.length_take_le _ _
  refine ⟨?_, fun c hm => ?_⟩
  · unfold Memory.fill
    refine List.pairwise_append.mpr ⟨List.pairwise_append.mpr ⟨h.1.filter _, hc.1, ?_⟩, h.1.filter _, ?_⟩
    · intro x hx y hy
      have := mem_cellsFrom hy
      simp only [List.mem_filter, decide_eq_true_eq] at hx
      omega
    · intro x hx y hy
      simp only [List.mem_append, List.mem_filter, decide_eq_true_eq] at hx hy
      rcases hx with hx | hx
      · omega
      · have := mem_cellsFrom hx
        omega
  · rcases mem_fill hm with hm | hm
    · exact h.2 c hm.1
    · exact (mem_cellsFrom hm).2.2.2

/-- Outside the buffer a read sees what it saw before. -/
theorem Memory.read_fill_outside (m : Memory) {base cap a : Nat} (bs : List Byte)
    (h : a < base ∨ base + 4 * cap ≤ a) : (m.fill base cap bs).read a = m.read a := by
  have hlen : (bs.take cap).length ≤ cap := List.length_take_le _ _
  have hc : ∀ c ∈ cellsFrom base (bs.take cap), c.1 ≠ a := fun c hc => by
    have := mem_cellsFrom hc
    omega
  unfold Memory.fill
  rcases h with h | h
  · rw [read_append_left _ _ _ (fun c hm => by simp only [List.mem_filter, decide_eq_true_eq] at hm; omega),
      read_append_left _ _ _ hc]
    exact read_filter m (fun k => decide (k < base)) a (by simpa using h)
  · rw [List.append_assoc, read_append _ _ _ (fun c hm => by simp only [List.mem_filter, decide_eq_true_eq] at hm; omega),
      read_append _ _ _ hc]
    exact read_filter m (fun k => decide (base + 4 * cap ≤ k)) a (by simpa using h)

/-- Inside the buffer a read sees the new contents, zeros after them. -/
theorem Memory.read_fill_inside (m : Memory) {base cap i : Nat} (bs : List Byte) (h : i < cap) :
    (m.fill base cap bs).read (base + 4 * i) = bs.getD i 0 := by
  unfold Memory.fill
  rw [read_append_left _ _ _ (fun c hm => by simp only [List.mem_filter, decide_eq_true_eq] at hm; omega),
    read_append _ _ _ (fun c hm => by simp only [List.mem_filter, decide_eq_true_eq] at hm; omega),
    read_cellsFrom]
  simp only [List.getD_eq_getElem?_getD, List.getElem?_take, if_pos h]

@[simp] theorem Memory.length_bytes (m : Memory) (base n : Nat) : (m.bytes base n).length = n := by
  simp [Memory.bytes]

/-- A buffer just filled with at most `cap` bytes holds exactly these bytes. -/
theorem Memory.bytes_fill (m : Memory) (base cap : Nat) (bs : List Byte) (h : bs.length ≤ cap) :
    (m.fill base cap bs).bytes base bs.length = bs := by
  refine List.ext_getElem (by simp) fun i h1 h2 => ?_
  simp only [Memory.bytes, List.getElem_map, List.getElem_range]
  rw [read_fill_inside m bs (by omega)]
  simp [h2]

end Sys2Proof.Machine
end

