-- ==== Sys2Proof/Laws/State.lean ====
section
/-! SUPPORT. One lemma per field per update of the state, each true by `rfl`: no later proof unfolds a record update.
(`logFrame`, which branches on `TXCOUNT`, has its unchanged fields here and its log in Laws/Ops.lean.) -/

namespace Sys2Proof.Machine

/-! ### `finish` -/

@[simp] theorem finish_code (c : Code) (s : State) : (finish c s).code = c := rfl
@[simp] theorem finish_ovr (c : Code) (s : State) : (finish c s).ovr = s.ovr := rfl
@[simp] theorem finish_ackMatch (c : Code) (s : State) : (finish c s).ackMatch = s.ackMatch := rfl
@[simp] theorem finish_diagAuth (c : Code) (s : State) : (finish c s).diagAuth = s.diagAuth := rfl
@[simp] theorem finish_diagNav (c : Code) (s : State) : (finish c s).diagNav = s.diagNav := rfl
@[simp] theorem finish_txCount (c : Code) (s : State) : (finish c s).txCount = s.txCount := rfl
@[simp] theorem finish_devidLo (c : Code) (s : State) : (finish c s).devidLo = s.devidLo := rfl
@[simp] theorem finish_devidHi (c : Code) (s : State) : (finish c s).devidHi = s.devidHi := rfl
@[simp] theorem finish_time (c : Code) (s : State) : (finish c s).time = s.time := rfl
@[simp] theorem finish_lat (c : Code) (s : State) : (finish c s).lat = s.lat := rfl
@[simp] theorem finish_lon (c : Code) (s : State) : (finish c s).lon = s.lon := rfl
@[simp] theorem finish_crc8Acc (c : Code) (s : State) : (finish c s).crc8Acc = s.crc8Acc := rfl
@[simp] theorem finish_crc16cAcc (c : Code) (s : State) : (finish c s).crc16cAcc = s.crc16cAcc := rfl
@[simp] theorem finish_crc16mAcc (c : Code) (s : State) : (finish c s).crc16mAcc = s.crc16mAcc := rfl
@[simp] theorem finish_xorAcc (c : Code) (s : State) : (finish c s).xorAcc = s.xorAcc := rfl
@[simp] theorem finish_ndtpPid (c : Code) (s : State) : (finish c s).ndtpPid = s.ndtpPid := rfl
@[simp] theorem finish_ndtpAuth (c : Code) (s : State) : (finish c s).ndtpAuth = s.ndtpAuth := rfl
@[simp] theorem finish_egtsPid (c : Code) (s : State) : (finish c s).egtsPid = s.egtsPid := rfl
@[simp] theorem finish_egtsRn (c : Code) (s : State) : (finish c s).egtsRn = s.egtsRn := rfl
@[simp] theorem finish_ntcRn (c : Code) (s : State) : (finish c s).ntcRn = s.ntcRn := rfl
@[simp] theorem finish_ntcAuth (c : Code) (s : State) : (finish c s).ntcAuth = s.ntcAuth := rfl
@[simp] theorem finish_wlnAuth (c : Code) (s : State) : (finish c s).wlnAuth = s.wlnAuth := rfl
@[simp] theorem finish_frameLen (c : Code) (s : State) : (finish c s).frameLen = s.frameLen := rfl
@[simp] theorem finish_rxLen (c : Code) (s : State) : (finish c s).rxLen = s.rxLen := rfl
@[simp] theorem finish_tx0Len (c : Code) (s : State) : (finish c s).tx0Len = s.tx0Len := rfl
@[simp] theorem finish_tx1Len (c : Code) (s : State) : (finish c s).tx1Len = s.tx1Len := rfl
@[simp] theorem finish_mem (c : Code) (s : State) : (finish c s).mem = s.mem := rfl
@[simp] theorem finish_pos (c : Code) (s : State) : (finish c s).pos = .idle := rfl
@[simp] theorem finish_readData (c : Code) (s : State) : (finish c s).readData = s.readData := rfl
@[simp] theorem finish_events (c : Code) (s : State) : (finish c s).events = s.events := rfl

/-! ### `illegalWord` -/

@[simp] theorem illegalWord_code (s : State) : (illegalWord s).code = .illegal := rfl
@[simp] theorem illegalWord_ovr (s : State) : (illegalWord s).ovr = s.ovr := rfl
@[simp] theorem illegalWord_ackMatch (s : State) : (illegalWord s).ackMatch = s.ackMatch := rfl
@[simp] theorem illegalWord_diagAuth (s : State) : (illegalWord s).diagAuth = s.diagAuth := rfl
@[simp] theorem illegalWord_diagNav (s : State) : (illegalWord s).diagNav = s.diagNav := rfl
@[simp] theorem illegalWord_txCount (s : State) : (illegalWord s).txCount = s.txCount := rfl
@[simp] theorem illegalWord_devidLo (s : State) : (illegalWord s).devidLo = s.devidLo := rfl
@[simp] theorem illegalWord_devidHi (s : State) : (illegalWord s).devidHi = s.devidHi := rfl
@[simp] theorem illegalWord_time (s : State) : (illegalWord s).time = s.time := rfl
@[simp] theorem illegalWord_lat (s : State) : (illegalWord s).lat = s.lat := rfl
@[simp] theorem illegalWord_lon (s : State) : (illegalWord s).lon = s.lon := rfl
@[simp] theorem illegalWord_crc8Acc (s : State) : (illegalWord s).crc8Acc = s.crc8Acc := rfl
@[simp] theorem illegalWord_crc16cAcc (s : State) : (illegalWord s).crc16cAcc = s.crc16cAcc := rfl
@[simp] theorem illegalWord_crc16mAcc (s : State) : (illegalWord s).crc16mAcc = s.crc16mAcc := rfl
@[simp] theorem illegalWord_xorAcc (s : State) : (illegalWord s).xorAcc = s.xorAcc := rfl
@[simp] theorem illegalWord_ndtpPid (s : State) : (illegalWord s).ndtpPid = s.ndtpPid := rfl
@[simp] theorem illegalWord_ndtpAuth (s : State) : (illegalWord s).ndtpAuth = s.ndtpAuth := rfl
@[simp] theorem illegalWord_egtsPid (s : State) : (illegalWord s).egtsPid = s.egtsPid := rfl
@[simp] theorem illegalWord_egtsRn (s : State) : (illegalWord s).egtsRn = s.egtsRn := rfl
@[simp] theorem illegalWord_ntcRn (s : State) : (illegalWord s).ntcRn = s.ntcRn := rfl
@[simp] theorem illegalWord_ntcAuth (s : State) : (illegalWord s).ntcAuth = s.ntcAuth := rfl
@[simp] theorem illegalWord_wlnAuth (s : State) : (illegalWord s).wlnAuth = s.wlnAuth := rfl
@[simp] theorem illegalWord_frameLen (s : State) : (illegalWord s).frameLen = s.frameLen := rfl
@[simp] theorem illegalWord_rxLen (s : State) : (illegalWord s).rxLen = s.rxLen := rfl
@[simp] theorem illegalWord_tx0Len (s : State) : (illegalWord s).tx0Len = s.tx0Len := rfl
@[simp] theorem illegalWord_tx1Len (s : State) : (illegalWord s).tx1Len = s.tx1Len := rfl
@[simp] theorem illegalWord_mem (s : State) : (illegalWord s).mem = s.mem := rfl
@[simp] theorem illegalWord_pos (s : State) : (illegalWord s).pos = .idle := rfl
@[simp] theorem illegalWord_readData (s : State) : (illegalWord s).readData = s.readData := rfl
@[simp] theorem illegalWord_events (s : State) : (illegalWord s).events = s.events := rfl

/-! ### `dropWrite` -/

@[simp] theorem dropWrite_code (s : State) : (dropWrite s).code = s.code := rfl
@[simp] theorem dropWrite_ovr (s : State) : (dropWrite s).ovr = true := rfl
@[simp] theorem dropWrite_ackMatch (s : State) : (dropWrite s).ackMatch = s.ackMatch := rfl
@[simp] theorem dropWrite_diagAuth (s : State) : (dropWrite s).diagAuth = s.diagAuth := rfl
@[simp] theorem dropWrite_diagNav (s : State) : (dropWrite s).diagNav = s.diagNav := rfl
@[simp] theorem dropWrite_txCount (s : State) : (dropWrite s).txCount = s.txCount := rfl
@[simp] theorem dropWrite_devidLo (s : State) : (dropWrite s).devidLo = s.devidLo := rfl
@[simp] theorem dropWrite_devidHi (s : State) : (dropWrite s).devidHi = s.devidHi := rfl
@[simp] theorem dropWrite_time (s : State) : (dropWrite s).time = s.time := rfl
@[simp] theorem dropWrite_lat (s : State) : (dropWrite s).lat = s.lat := rfl
@[simp] theorem dropWrite_lon (s : State) : (dropWrite s).lon = s.lon := rfl
@[simp] theorem dropWrite_crc8Acc (s : State) : (dropWrite s).crc8Acc = s.crc8Acc := rfl
@[simp] theorem dropWrite_crc16cAcc (s : State) : (dropWrite s).crc16cAcc = s.crc16cAcc := rfl
@[simp] theorem dropWrite_crc16mAcc (s : State) : (dropWrite s).crc16mAcc = s.crc16mAcc := rfl
@[simp] theorem dropWrite_xorAcc (s : State) : (dropWrite s).xorAcc = s.xorAcc := rfl
@[simp] theorem dropWrite_ndtpPid (s : State) : (dropWrite s).ndtpPid = s.ndtpPid := rfl
@[simp] theorem dropWrite_ndtpAuth (s : State) : (dropWrite s).ndtpAuth = s.ndtpAuth := rfl
@[simp] theorem dropWrite_egtsPid (s : State) : (dropWrite s).egtsPid = s.egtsPid := rfl
@[simp] theorem dropWrite_egtsRn (s : State) : (dropWrite s).egtsRn = s.egtsRn := rfl
@[simp] theorem dropWrite_ntcRn (s : State) : (dropWrite s).ntcRn = s.ntcRn := rfl
@[simp] theorem dropWrite_ntcAuth (s : State) : (dropWrite s).ntcAuth = s.ntcAuth := rfl
@[simp] theorem dropWrite_wlnAuth (s : State) : (dropWrite s).wlnAuth = s.wlnAuth := rfl
@[simp] theorem dropWrite_frameLen (s : State) : (dropWrite s).frameLen = s.frameLen := rfl
@[simp] theorem dropWrite_rxLen (s : State) : (dropWrite s).rxLen = s.rxLen := rfl
@[simp] theorem dropWrite_tx0Len (s : State) : (dropWrite s).tx0Len = s.tx0Len := rfl
@[simp] theorem dropWrite_tx1Len (s : State) : (dropWrite s).tx1Len = s.tx1Len := rfl
@[simp] theorem dropWrite_mem (s : State) : (dropWrite s).mem = s.mem := rfl
@[simp] theorem dropWrite_pos (s : State) : (dropWrite s).pos = s.pos := rfl
@[simp] theorem dropWrite_readData (s : State) : (dropWrite s).readData = s.readData := rfl
@[simp] theorem dropWrite_events (s : State) : (dropWrite s).events = s.events := rfl

/-! ### `setFrame` -/

@[simp] theorem setFrame_code (f : List Byte) (s : State) : (setFrame f s).code = s.code := rfl
@[simp] theorem setFrame_ovr (f : List Byte) (s : State) : (setFrame f s).ovr = s.ovr := rfl
@[simp] theorem setFrame_ackMatch (f : List Byte) (s : State) : (setFrame f s).ackMatch = s.ackMatch := rfl
@[simp] theorem setFrame_diagAuth (f : List Byte) (s : State) : (setFrame f s).diagAuth = s.diagAuth := rfl
@[simp] theorem setFrame_diagNav (f : List Byte) (s : State) : (setFrame f s).diagNav = s.diagNav := rfl
@[simp] theorem setFrame_txCount (f : List Byte) (s : State) : (setFrame f s).txCount = s.txCount := rfl
@[simp] theorem setFrame_devidLo (f : List Byte) (s : State) : (setFrame f s).devidLo = s.devidLo := rfl
@[simp] theorem setFrame_devidHi (f : List Byte) (s : State) : (setFrame f s).devidHi = s.devidHi := rfl
@[simp] theorem setFrame_time (f : List Byte) (s : State) : (setFrame f s).time = s.time := rfl
@[simp] theorem setFrame_lat (f : List Byte) (s : State) : (setFrame f s).lat = s.lat := rfl
@[simp] theorem setFrame_lon (f : List Byte) (s : State) : (setFrame f s).lon = s.lon := rfl
@[simp] theorem setFrame_crc8Acc (f : List Byte) (s : State) : (setFrame f s).crc8Acc = s.crc8Acc := rfl
@[simp] theorem setFrame_crc16cAcc (f : List Byte) (s : State) : (setFrame f s).crc16cAcc = s.crc16cAcc := rfl
@[simp] theorem setFrame_crc16mAcc (f : List Byte) (s : State) : (setFrame f s).crc16mAcc = s.crc16mAcc := rfl
@[simp] theorem setFrame_xorAcc (f : List Byte) (s : State) : (setFrame f s).xorAcc = s.xorAcc := rfl
@[simp] theorem setFrame_ndtpPid (f : List Byte) (s : State) : (setFrame f s).ndtpPid = s.ndtpPid := rfl
@[simp] theorem setFrame_ndtpAuth (f : List Byte) (s : State) : (setFrame f s).ndtpAuth = s.ndtpAuth := rfl
@[simp] theorem setFrame_egtsPid (f : List Byte) (s : State) : (setFrame f s).egtsPid = s.egtsPid := rfl
@[simp] theorem setFrame_egtsRn (f : List Byte) (s : State) : (setFrame f s).egtsRn = s.egtsRn := rfl
@[simp] theorem setFrame_ntcRn (f : List Byte) (s : State) : (setFrame f s).ntcRn = s.ntcRn := rfl
@[simp] theorem setFrame_ntcAuth (f : List Byte) (s : State) : (setFrame f s).ntcAuth = s.ntcAuth := rfl
@[simp] theorem setFrame_wlnAuth (f : List Byte) (s : State) : (setFrame f s).wlnAuth = s.wlnAuth := rfl
@[simp] theorem setFrame_frameLen (f : List Byte) (s : State) : (setFrame f s).frameLen = BitVec.ofNat 8 f.length := rfl
@[simp] theorem setFrame_rxLen (f : List Byte) (s : State) : (setFrame f s).rxLen = s.rxLen := rfl
@[simp] theorem setFrame_tx0Len (f : List Byte) (s : State) : (setFrame f s).tx0Len = s.tx0Len := rfl
@[simp] theorem setFrame_tx1Len (f : List Byte) (s : State) : (setFrame f s).tx1Len = s.tx1Len := rfl
@[simp] theorem setFrame_mem (f : List Byte) (s : State) : (setFrame f s).mem = s.mem.fill frameBase Config.frameCap f := rfl
@[simp] theorem setFrame_pos (f : List Byte) (s : State) : (setFrame f s).pos = s.pos := rfl
@[simp] theorem setFrame_readData (f : List Byte) (s : State) : (setFrame f s).readData = s.readData := rfl
@[simp] theorem setFrame_events (f : List Byte) (s : State) : (setFrame f s).events = s.events := rfl

/-! ### `storeRx` -/

@[simp] theorem storeRx_code (r : List Byte) (s : State) : (storeRx r s).code = s.code := rfl
@[simp] theorem storeRx_ovr (r : List Byte) (s : State) : (storeRx r s).ovr = s.ovr := rfl
@[simp] theorem storeRx_ackMatch (r : List Byte) (s : State) : (storeRx r s).ackMatch = s.ackMatch := rfl
@[simp] theorem storeRx_diagAuth (r : List Byte) (s : State) : (storeRx r s).diagAuth = s.diagAuth := rfl
@[simp] theorem storeRx_diagNav (r : List Byte) (s : State) : (storeRx r s).diagNav = s.diagNav := rfl
@[simp] theorem storeRx_txCount (r : List Byte) (s : State) : (storeRx r s).txCount = s.txCount := rfl
@[simp] theorem storeRx_devidLo (r : List Byte) (s : State) : (storeRx r s).devidLo = s.devidLo := rfl
@[simp] theorem storeRx_devidHi (r : List Byte) (s : State) : (storeRx r s).devidHi = s.devidHi := rfl
@[simp] theorem storeRx_time (r : List Byte) (s : State) : (storeRx r s).time = s.time := rfl
@[simp] theorem storeRx_lat (r : List Byte) (s : State) : (storeRx r s).lat = s.lat := rfl
@[simp] theorem storeRx_lon (r : List Byte) (s : State) : (storeRx r s).lon = s.lon := rfl
@[simp] theorem storeRx_crc8Acc (r : List Byte) (s : State) : (storeRx r s).crc8Acc = s.crc8Acc := rfl
@[simp] theorem storeRx_crc16cAcc (r : List Byte) (s : State) : (storeRx r s).crc16cAcc = s.crc16cAcc := rfl
@[simp] theorem storeRx_crc16mAcc (r : List Byte) (s : State) : (storeRx r s).crc16mAcc = s.crc16mAcc := rfl
@[simp] theorem storeRx_xorAcc (r : List Byte) (s : State) : (storeRx r s).xorAcc = s.xorAcc := rfl
@[simp] theorem storeRx_ndtpPid (r : List Byte) (s : State) : (storeRx r s).ndtpPid = s.ndtpPid := rfl
@[simp] theorem storeRx_ndtpAuth (r : List Byte) (s : State) : (storeRx r s).ndtpAuth = s.ndtpAuth := rfl
@[simp] theorem storeRx_egtsPid (r : List Byte) (s : State) : (storeRx r s).egtsPid = s.egtsPid := rfl
@[simp] theorem storeRx_egtsRn (r : List Byte) (s : State) : (storeRx r s).egtsRn = s.egtsRn := rfl
@[simp] theorem storeRx_ntcRn (r : List Byte) (s : State) : (storeRx r s).ntcRn = s.ntcRn := rfl
@[simp] theorem storeRx_ntcAuth (r : List Byte) (s : State) : (storeRx r s).ntcAuth = s.ntcAuth := rfl
@[simp] theorem storeRx_wlnAuth (r : List Byte) (s : State) : (storeRx r s).wlnAuth = s.wlnAuth := rfl
@[simp] theorem storeRx_frameLen (r : List Byte) (s : State) : (storeRx r s).frameLen = s.frameLen := rfl
@[simp] theorem storeRx_rxLen (r : List Byte) (s : State) : (storeRx r s).rxLen = BitVec.ofNat Config.rxLenBits r.length := rfl
@[simp] theorem storeRx_tx0Len (r : List Byte) (s : State) : (storeRx r s).tx0Len = s.tx0Len := rfl
@[simp] theorem storeRx_tx1Len (r : List Byte) (s : State) : (storeRx r s).tx1Len = s.tx1Len := rfl
@[simp] theorem storeRx_mem (r : List Byte) (s : State) : (storeRx r s).mem = s.mem.fill rxBase Config.rxCap r := rfl
@[simp] theorem storeRx_pos (r : List Byte) (s : State) : (storeRx r s).pos = s.pos := rfl
@[simp] theorem storeRx_readData (r : List Byte) (s : State) : (storeRx r s).readData = s.readData := rfl
@[simp] theorem storeRx_events (r : List Byte) (s : State) : (storeRx r s).events = s.events := rfl

/-! ### `prologue` -/

@[simp] theorem prologue_code (s : State) : (prologue s).code = s.code := rfl
@[simp] theorem prologue_ovr (s : State) : (prologue s).ovr = s.ovr := rfl
@[simp] theorem prologue_ackMatch (s : State) : (prologue s).ackMatch = s.ackMatch := rfl
@[simp] theorem prologue_diagAuth (s : State) : (prologue s).diagAuth = false := rfl
@[simp] theorem prologue_diagNav (s : State) : (prologue s).diagNav = false := rfl
@[simp] theorem prologue_txCount (s : State) : (prologue s).txCount = 0 := rfl
@[simp] theorem prologue_devidLo (s : State) : (prologue s).devidLo = s.devidLo := rfl
@[simp] theorem prologue_devidHi (s : State) : (prologue s).devidHi = s.devidHi := rfl
@[simp] theorem prologue_time (s : State) : (prologue s).time = s.time := rfl
@[simp] theorem prologue_lat (s : State) : (prologue s).lat = s.lat := rfl
@[simp] theorem prologue_lon (s : State) : (prologue s).lon = s.lon := rfl
@[simp] theorem prologue_crc8Acc (s : State) : (prologue s).crc8Acc = s.crc8Acc := rfl
@[simp] theorem prologue_crc16cAcc (s : State) : (prologue s).crc16cAcc = s.crc16cAcc := rfl
@[simp] theorem prologue_crc16mAcc (s : State) : (prologue s).crc16mAcc = s.crc16mAcc := rfl
@[simp] theorem prologue_xorAcc (s : State) : (prologue s).xorAcc = s.xorAcc := rfl
@[simp] theorem prologue_ndtpPid (s : State) : (prologue s).ndtpPid = s.ndtpPid := rfl
@[simp] theorem prologue_ndtpAuth (s : State) : (prologue s).ndtpAuth = s.ndtpAuth := rfl
@[simp] theorem prologue_egtsPid (s : State) : (prologue s).egtsPid = s.egtsPid := rfl
@[simp] theorem prologue_egtsRn (s : State) : (prologue s).egtsRn = s.egtsRn := rfl
@[simp] theorem prologue_ntcRn (s : State) : (prologue s).ntcRn = s.ntcRn := rfl
@[simp] theorem prologue_ntcAuth (s : State) : (prologue s).ntcAuth = s.ntcAuth := rfl
@[simp] theorem prologue_wlnAuth (s : State) : (prologue s).wlnAuth = s.wlnAuth := rfl
@[simp] theorem prologue_frameLen (s : State) : (prologue s).frameLen = s.frameLen := rfl
@[simp] theorem prologue_rxLen (s : State) : (prologue s).rxLen = s.rxLen := rfl
@[simp] theorem prologue_tx0Len (s : State) : (prologue s).tx0Len = 0 := rfl
@[simp] theorem prologue_tx1Len (s : State) : (prologue s).tx1Len = 0 := rfl
@[simp] theorem prologue_mem (s : State) : (prologue s).mem = (s.mem.fill tx0Base Config.frameCap []).fill tx1Base Config.frameCap [] := rfl
@[simp] theorem prologue_pos (s : State) : (prologue s).pos = s.pos := rfl
@[simp] theorem prologue_readData (s : State) : (prologue s).readData = s.readData := rfl
@[simp] theorem prologue_events (s : State) : (prologue s).events = s.events := rfl

/-! ### `issueWrite` -/

@[simp] theorem issueWrite_code (leg : Leg) (f : List Byte) (s : State) : (issueWrite leg f s).code = s.code := rfl
@[simp] theorem issueWrite_ovr (leg : Leg) (f : List Byte) (s : State) : (issueWrite leg f s).ovr = s.ovr := rfl
@[simp] theorem issueWrite_ackMatch (leg : Leg) (f : List Byte) (s : State) : (issueWrite leg f s).ackMatch = s.ackMatch := rfl
@[simp] theorem issueWrite_diagAuth (leg : Leg) (f : List Byte) (s : State) : (issueWrite leg f s).diagAuth = s.diagAuth := rfl
@[simp] theorem issueWrite_diagNav (leg : Leg) (f : List Byte) (s : State) : (issueWrite leg f s).diagNav = s.diagNav := rfl
@[simp] theorem issueWrite_txCount (leg : Leg) (f : List Byte) (s : State) : (issueWrite leg f s).txCount = s.txCount := rfl
@[simp] theorem issueWrite_devidLo (leg : Leg) (f : List Byte) (s : State) : (issueWrite leg f s).devidLo = s.devidLo := rfl
@[simp] theorem issueWrite_devidHi (leg : Leg) (f : List Byte) (s : State) : (issueWrite leg f s).devidHi = s.devidHi := rfl
@[simp] theorem issueWrite_time (leg : Leg) (f : List Byte) (s : State) : (issueWrite leg f s).time = s.time := rfl
@[simp] theorem issueWrite_lat (leg : Leg) (f : List Byte) (s : State) : (issueWrite leg f s).lat = s.lat := rfl
@[simp] theorem issueWrite_lon (leg : Leg) (f : List Byte) (s : State) : (issueWrite leg f s).lon = s.lon := rfl
@[simp] theorem issueWrite_crc8Acc (leg : Leg) (f : List Byte) (s : State) : (issueWrite leg f s).crc8Acc = s.crc8Acc := rfl
@[simp] theorem issueWrite_crc16cAcc (leg : Leg) (f : List Byte) (s : State) : (issueWrite leg f s).crc16cAcc = s.crc16cAcc := rfl
@[simp] theorem issueWrite_crc16mAcc (leg : Leg) (f : List Byte) (s : State) : (issueWrite leg f s).crc16mAcc = s.crc16mAcc := rfl
@[simp] theorem issueWrite_xorAcc (leg : Leg) (f : List Byte) (s : State) : (issueWrite leg f s).xorAcc = s.xorAcc := rfl
@[simp] theorem issueWrite_ndtpPid (leg : Leg) (f : List Byte) (s : State) : (issueWrite leg f s).ndtpPid = s.ndtpPid := rfl
@[simp] theorem issueWrite_ndtpAuth (leg : Leg) (f : List Byte) (s : State) : (issueWrite leg f s).ndtpAuth = s.ndtpAuth := rfl
@[simp] theorem issueWrite_egtsPid (leg : Leg) (f : List Byte) (s : State) : (issueWrite leg f s).egtsPid = s.egtsPid := rfl
@[simp] theorem issueWrite_egtsRn (leg : Leg) (f : List Byte) (s : State) : (issueWrite leg f s).egtsRn = s.egtsRn := rfl
@[simp] theorem issueWrite_ntcRn (leg : Leg) (f : List Byte) (s : State) : (issueWrite leg f s).ntcRn = s.ntcRn := rfl
@[simp] theorem issueWrite_ntcAuth (leg : Leg) (f : List Byte) (s : State) : (issueWrite leg f s).ntcAuth = s.ntcAuth := rfl
@[simp] theorem issueWrite_wlnAuth (leg : Leg) (f : List Byte) (s : State) : (issueWrite leg f s).wlnAuth = s.wlnAuth := rfl
@[simp] theorem issueWrite_frameLen (leg : Leg) (f : List Byte) (s : State) : (issueWrite leg f s).frameLen = s.frameLen := rfl
@[simp] theorem issueWrite_rxLen (leg : Leg) (f : List Byte) (s : State) : (issueWrite leg f s).rxLen = s.rxLen := rfl
@[simp] theorem issueWrite_tx0Len (leg : Leg) (f : List Byte) (s : State) : (issueWrite leg f s).tx0Len = s.tx0Len := rfl
@[simp] theorem issueWrite_tx1Len (leg : Leg) (f : List Byte) (s : State) : (issueWrite leg f s).tx1Len = s.tx1Len := rfl
@[simp] theorem issueWrite_mem (leg : Leg) (f : List Byte) (s : State) : (issueWrite leg f s).mem = s.mem := rfl
@[simp] theorem issueWrite_pos (leg : Leg) (f : List Byte) (s : State) : (issueWrite leg f s).pos = .awaitWrite leg f := rfl
@[simp] theorem issueWrite_readData (leg : Leg) (f : List Byte) (s : State) : (issueWrite leg f s).readData = s.readData := rfl
@[simp] theorem issueWrite_events (leg : Leg) (f : List Byte) (s : State) : (issueWrite leg f s).events = s.events := rfl

/-! ### `issueRead` -/

@[simp] theorem issueRead_code (leg : Leg) (s : State) : (issueRead leg s).code = s.code := rfl
@[simp] theorem issueRead_ovr (leg : Leg) (s : State) : (issueRead leg s).ovr = s.ovr := rfl
@[simp] theorem issueRead_ackMatch (leg : Leg) (s : State) : (issueRead leg s).ackMatch = s.ackMatch := rfl
@[simp] theorem issueRead_diagAuth (leg : Leg) (s : State) : (issueRead leg s).diagAuth = s.diagAuth := rfl
@[simp] theorem issueRead_diagNav (leg : Leg) (s : State) : (issueRead leg s).diagNav = s.diagNav := rfl
@[simp] theorem issueRead_txCount (leg : Leg) (s : State) : (issueRead leg s).txCount = s.txCount := rfl
@[simp] theorem issueRead_devidLo (leg : Leg) (s : State) : (issueRead leg s).devidLo = s.devidLo := rfl
@[simp] theorem issueRead_devidHi (leg : Leg) (s : State) : (issueRead leg s).devidHi = s.devidHi := rfl
@[simp] theorem issueRead_time (leg : Leg) (s : State) : (issueRead leg s).time = s.time := rfl
@[simp] theorem issueRead_lat (leg : Leg) (s : State) : (issueRead leg s).lat = s.lat := rfl
@[simp] theorem issueRead_lon (leg : Leg) (s : State) : (issueRead leg s).lon = s.lon := rfl
@[simp] theorem issueRead_crc8Acc (leg : Leg) (s : State) : (issueRead leg s).crc8Acc = s.crc8Acc := rfl
@[simp] theorem issueRead_crc16cAcc (leg : Leg) (s : State) : (issueRead leg s).crc16cAcc = s.crc16cAcc := rfl
@[simp] theorem issueRead_crc16mAcc (leg : Leg) (s : State) : (issueRead leg s).crc16mAcc = s.crc16mAcc := rfl
@[simp] theorem issueRead_xorAcc (leg : Leg) (s : State) : (issueRead leg s).xorAcc = s.xorAcc := rfl
@[simp] theorem issueRead_ndtpPid (leg : Leg) (s : State) : (issueRead leg s).ndtpPid = s.ndtpPid := rfl
@[simp] theorem issueRead_ndtpAuth (leg : Leg) (s : State) : (issueRead leg s).ndtpAuth = s.ndtpAuth := rfl
@[simp] theorem issueRead_egtsPid (leg : Leg) (s : State) : (issueRead leg s).egtsPid = s.egtsPid := rfl
@[simp] theorem issueRead_egtsRn (leg : Leg) (s : State) : (issueRead leg s).egtsRn = s.egtsRn := rfl
@[simp] theorem issueRead_ntcRn (leg : Leg) (s : State) : (issueRead leg s).ntcRn = s.ntcRn := rfl
@[simp] theorem issueRead_ntcAuth (leg : Leg) (s : State) : (issueRead leg s).ntcAuth = s.ntcAuth := rfl
@[simp] theorem issueRead_wlnAuth (leg : Leg) (s : State) : (issueRead leg s).wlnAuth = s.wlnAuth := rfl
@[simp] theorem issueRead_frameLen (leg : Leg) (s : State) : (issueRead leg s).frameLen = s.frameLen := rfl
@[simp] theorem issueRead_rxLen (leg : Leg) (s : State) : (issueRead leg s).rxLen = s.rxLen := rfl
@[simp] theorem issueRead_tx0Len (leg : Leg) (s : State) : (issueRead leg s).tx0Len = s.tx0Len := rfl
@[simp] theorem issueRead_tx1Len (leg : Leg) (s : State) : (issueRead leg s).tx1Len = s.tx1Len := rfl
@[simp] theorem issueRead_mem (leg : Leg) (s : State) : (issueRead leg s).mem = s.mem := rfl
@[simp] theorem issueRead_pos (leg : Leg) (s : State) : (issueRead leg s).pos = .awaitRead leg := rfl
@[simp] theorem issueRead_readData (leg : Leg) (s : State) : (issueRead leg s).readData = s.readData := rfl
@[simp] theorem issueRead_events (leg : Leg) (s : State) : (issueRead leg s).events = s.events := rfl

/-! ### `ndtpPut` -/

@[simp] theorem ndtpPut_code (f : List Byte) (s : State) : (ndtpPut f s).code = s.code := rfl
@[simp] theorem ndtpPut_ovr (f : List Byte) (s : State) : (ndtpPut f s).ovr = s.ovr := rfl
@[simp] theorem ndtpPut_ackMatch (f : List Byte) (s : State) : (ndtpPut f s).ackMatch = s.ackMatch := rfl
@[simp] theorem ndtpPut_diagAuth (f : List Byte) (s : State) : (ndtpPut f s).diagAuth = s.diagAuth := rfl
@[simp] theorem ndtpPut_diagNav (f : List Byte) (s : State) : (ndtpPut f s).diagNav = s.diagNav := rfl
@[simp] theorem ndtpPut_txCount (f : List Byte) (s : State) : (ndtpPut f s).txCount = s.txCount := rfl
@[simp] theorem ndtpPut_devidLo (f : List Byte) (s : State) : (ndtpPut f s).devidLo = s.devidLo := rfl
@[simp] theorem ndtpPut_devidHi (f : List Byte) (s : State) : (ndtpPut f s).devidHi = s.devidHi := rfl
@[simp] theorem ndtpPut_time (f : List Byte) (s : State) : (ndtpPut f s).time = s.time := rfl
@[simp] theorem ndtpPut_lat (f : List Byte) (s : State) : (ndtpPut f s).lat = s.lat := rfl
@[simp] theorem ndtpPut_lon (f : List Byte) (s : State) : (ndtpPut f s).lon = s.lon := rfl
@[simp] theorem ndtpPut_crc8Acc (f : List Byte) (s : State) : (ndtpPut f s).crc8Acc = s.crc8Acc := rfl
@[simp] theorem ndtpPut_crc16cAcc (f : List Byte) (s : State) : (ndtpPut f s).crc16cAcc = s.crc16cAcc := rfl
@[simp] theorem ndtpPut_crc16mAcc (f : List Byte) (s : State) : (ndtpPut f s).crc16mAcc = s.crc16mAcc := rfl
@[simp] theorem ndtpPut_xorAcc (f : List Byte) (s : State) : (ndtpPut f s).xorAcc = s.xorAcc := rfl
@[simp] theorem ndtpPut_ndtpPid (f : List Byte) (s : State) : (ndtpPut f s).ndtpPid = s.ndtpPid + 1 := rfl
@[simp] theorem ndtpPut_ndtpAuth (f : List Byte) (s : State) : (ndtpPut f s).ndtpAuth = s.ndtpAuth := rfl
@[simp] theorem ndtpPut_egtsPid (f : List Byte) (s : State) : (ndtpPut f s).egtsPid = s.egtsPid := rfl
@[simp] theorem ndtpPut_egtsRn (f : List Byte) (s : State) : (ndtpPut f s).egtsRn = s.egtsRn := rfl
@[simp] theorem ndtpPut_ntcRn (f : List Byte) (s : State) : (ndtpPut f s).ntcRn = s.ntcRn := rfl
@[simp] theorem ndtpPut_ntcAuth (f : List Byte) (s : State) : (ndtpPut f s).ntcAuth = s.ntcAuth := rfl
@[simp] theorem ndtpPut_wlnAuth (f : List Byte) (s : State) : (ndtpPut f s).wlnAuth = s.wlnAuth := rfl
@[simp] theorem ndtpPut_frameLen (f : List Byte) (s : State) : (ndtpPut f s).frameLen = BitVec.ofNat 8 f.length := rfl
@[simp] theorem ndtpPut_rxLen (f : List Byte) (s : State) : (ndtpPut f s).rxLen = s.rxLen := rfl
@[simp] theorem ndtpPut_tx0Len (f : List Byte) (s : State) : (ndtpPut f s).tx0Len = s.tx0Len := rfl
@[simp] theorem ndtpPut_tx1Len (f : List Byte) (s : State) : (ndtpPut f s).tx1Len = s.tx1Len := rfl
@[simp] theorem ndtpPut_mem (f : List Byte) (s : State) : (ndtpPut f s).mem = s.mem.fill frameBase Config.frameCap f := rfl
@[simp] theorem ndtpPut_pos (f : List Byte) (s : State) : (ndtpPut f s).pos = s.pos := rfl
@[simp] theorem ndtpPut_readData (f : List Byte) (s : State) : (ndtpPut f s).readData = s.readData := rfl
@[simp] theorem ndtpPut_events (f : List Byte) (s : State) : (ndtpPut f s).events = s.events := rfl

/-! ### `powerReset` -/

@[simp] theorem powerReset_code (s : State) : (powerReset s).code = State.reset.code := rfl
@[simp] theorem powerReset_ovr (s : State) : (powerReset s).ovr = State.reset.ovr := rfl
@[simp] theorem powerReset_ackMatch (s : State) : (powerReset s).ackMatch = State.reset.ackMatch := rfl
@[simp] theorem powerReset_diagAuth (s : State) : (powerReset s).diagAuth = State.reset.diagAuth := rfl
@[simp] theorem powerReset_diagNav (s : State) : (powerReset s).diagNav = State.reset.diagNav := rfl
@[simp] theorem powerReset_txCount (s : State) : (powerReset s).txCount = State.reset.txCount := rfl
@[simp] theorem powerReset_devidLo (s : State) : (powerReset s).devidLo = State.reset.devidLo := rfl
@[simp] theorem powerReset_devidHi (s : State) : (powerReset s).devidHi = State.reset.devidHi := rfl
@[simp] theorem powerReset_time (s : State) : (powerReset s).time = State.reset.time := rfl
@[simp] theorem powerReset_lat (s : State) : (powerReset s).lat = State.reset.lat := rfl
@[simp] theorem powerReset_lon (s : State) : (powerReset s).lon = State.reset.lon := rfl
@[simp] theorem powerReset_crc8Acc (s : State) : (powerReset s).crc8Acc = State.reset.crc8Acc := rfl
@[simp] theorem powerReset_crc16cAcc (s : State) : (powerReset s).crc16cAcc = State.reset.crc16cAcc := rfl
@[simp] theorem powerReset_crc16mAcc (s : State) : (powerReset s).crc16mAcc = State.reset.crc16mAcc := rfl
@[simp] theorem powerReset_xorAcc (s : State) : (powerReset s).xorAcc = State.reset.xorAcc := rfl
@[simp] theorem powerReset_ndtpPid (s : State) : (powerReset s).ndtpPid = State.reset.ndtpPid := rfl
@[simp] theorem powerReset_ndtpAuth (s : State) : (powerReset s).ndtpAuth = State.reset.ndtpAuth := rfl
@[simp] theorem powerReset_egtsPid (s : State) : (powerReset s).egtsPid = State.reset.egtsPid := rfl
@[simp] theorem powerReset_egtsRn (s : State) : (powerReset s).egtsRn = State.reset.egtsRn := rfl
@[simp] theorem powerReset_ntcRn (s : State) : (powerReset s).ntcRn = State.reset.ntcRn := rfl
@[simp] theorem powerReset_ntcAuth (s : State) : (powerReset s).ntcAuth = State.reset.ntcAuth := rfl
@[simp] theorem powerReset_wlnAuth (s : State) : (powerReset s).wlnAuth = State.reset.wlnAuth := rfl
@[simp] theorem powerReset_frameLen (s : State) : (powerReset s).frameLen = State.reset.frameLen := rfl
@[simp] theorem powerReset_rxLen (s : State) : (powerReset s).rxLen = State.reset.rxLen := rfl
@[simp] theorem powerReset_tx0Len (s : State) : (powerReset s).tx0Len = State.reset.tx0Len := rfl
@[simp] theorem powerReset_tx1Len (s : State) : (powerReset s).tx1Len = State.reset.tx1Len := rfl
@[simp] theorem powerReset_mem (s : State) : (powerReset s).mem = State.reset.mem := rfl
@[simp] theorem powerReset_pos (s : State) : (powerReset s).pos = State.reset.pos := rfl
@[simp] theorem powerReset_readData (s : State) : (powerReset s).readData = State.reset.readData := rfl
@[simp] theorem powerReset_events (s : State) : (powerReset s).events = s.events := rfl

/-! ### `logFrame` -/

@[simp] theorem logFrame_code (f : List Byte) (s : State) : (logFrame f s).code = s.code := by
  unfold logFrame; split <;> rfl
@[simp] theorem logFrame_ovr (f : List Byte) (s : State) : (logFrame f s).ovr = s.ovr := by
  unfold logFrame; split <;> rfl
@[simp] theorem logFrame_ackMatch (f : List Byte) (s : State) : (logFrame f s).ackMatch = s.ackMatch := by
  unfold logFrame; split <;> rfl
@[simp] theorem logFrame_diagAuth (f : List Byte) (s : State) : (logFrame f s).diagAuth = s.diagAuth := by
  unfold logFrame; split <;> rfl
@[simp] theorem logFrame_diagNav (f : List Byte) (s : State) : (logFrame f s).diagNav = s.diagNav := by
  unfold logFrame; split <;> rfl
@[simp] theorem logFrame_txCount (f : List Byte) (s : State) : (logFrame f s).txCount = s.txCount + 1 := by
  unfold logFrame; split <;> rfl
@[simp] theorem logFrame_devidLo (f : List Byte) (s : State) : (logFrame f s).devidLo = s.devidLo := by
  unfold logFrame; split <;> rfl
@[simp] theorem logFrame_devidHi (f : List Byte) (s : State) : (logFrame f s).devidHi = s.devidHi := by
  unfold logFrame; split <;> rfl
@[simp] theorem logFrame_time (f : List Byte) (s : State) : (logFrame f s).time = s.time := by
  unfold logFrame; split <;> rfl
@[simp] theorem logFrame_lat (f : List Byte) (s : State) : (logFrame f s).lat = s.lat := by
  unfold logFrame; split <;> rfl
@[simp] theorem logFrame_lon (f : List Byte) (s : State) : (logFrame f s).lon = s.lon := by
  unfold logFrame; split <;> rfl
@[simp] theorem logFrame_crc8Acc (f : List Byte) (s : State) : (logFrame f s).crc8Acc = s.crc8Acc := by
  unfold logFrame; split <;> rfl
@[simp] theorem logFrame_crc16cAcc (f : List Byte) (s : State) : (logFrame f s).crc16cAcc = s.crc16cAcc := by
  unfold logFrame; split <;> rfl
@[simp] theorem logFrame_crc16mAcc (f : List Byte) (s : State) : (logFrame f s).crc16mAcc = s.crc16mAcc := by
  unfold logFrame; split <;> rfl
@[simp] theorem logFrame_xorAcc (f : List Byte) (s : State) : (logFrame f s).xorAcc = s.xorAcc := by
  unfold logFrame; split <;> rfl
@[simp] theorem logFrame_ndtpPid (f : List Byte) (s : State) : (logFrame f s).ndtpPid = s.ndtpPid := by
  unfold logFrame; split <;> rfl
@[simp] theorem logFrame_ndtpAuth (f : List Byte) (s : State) : (logFrame f s).ndtpAuth = s.ndtpAuth := by
  unfold logFrame; split <;> rfl
@[simp] theorem logFrame_egtsPid (f : List Byte) (s : State) : (logFrame f s).egtsPid = s.egtsPid := by
  unfold logFrame; split <;> rfl
@[simp] theorem logFrame_egtsRn (f : List Byte) (s : State) : (logFrame f s).egtsRn = s.egtsRn := by
  unfold logFrame; split <;> rfl
@[simp] theorem logFrame_ntcRn (f : List Byte) (s : State) : (logFrame f s).ntcRn = s.ntcRn := by
  unfold logFrame; split <;> rfl
@[simp] theorem logFrame_ntcAuth (f : List Byte) (s : State) : (logFrame f s).ntcAuth = s.ntcAuth := by
  unfold logFrame; split <;> rfl
@[simp] theorem logFrame_wlnAuth (f : List Byte) (s : State) : (logFrame f s).wlnAuth = s.wlnAuth := by
  unfold logFrame; split <;> rfl
@[simp] theorem logFrame_frameLen (f : List Byte) (s : State) : (logFrame f s).frameLen = s.frameLen := by
  unfold logFrame; split <;> rfl
@[simp] theorem logFrame_rxLen (f : List Byte) (s : State) : (logFrame f s).rxLen = s.rxLen := by
  unfold logFrame; split <;> rfl
@[simp] theorem logFrame_pos (f : List Byte) (s : State) : (logFrame f s).pos = s.pos := by
  unfold logFrame; split <;> rfl
@[simp] theorem logFrame_readData (f : List Byte) (s : State) : (logFrame f s).readData = s.readData := by
  unfold logFrame; split <;> rfl
@[simp] theorem logFrame_events (f : List Byte) (s : State) : (logFrame f s).events = s.events := by
  unfold logFrame; split <;> rfl

/-! ### `busy` -/

@[simp] theorem busy_finish (c : Code) (s : State) : busy (finish c s) = false := rfl
@[simp] theorem busy_illegalWord (s : State) : busy (illegalWord s) = false := rfl
@[simp] theorem busy_issueWrite (leg : Leg) (f : List Byte) (s : State) : busy (issueWrite leg f s) = true := rfl
@[simp] theorem busy_issueRead (leg : Leg) (s : State) : busy (issueRead leg s) = true := rfl
@[simp] theorem busy_reset : busy State.reset = false := rfl

/-- `BUSY` is 0 exactly where no `SEND` is in progress (R39). -/
theorem busy_eq_false_iff (s : State) : busy s = false ↔ s.pos = .idle := by
  unfold busy; cases s.pos <;> simp

end Sys2Proof.Machine
end

