-- ==== Sys2Proof/Laws/Ops.lean ====
section
/-! SUPPORT. For each shared operation, once, everything it can do: the lemmas a proof cites instead of unfolding. -/

namespace Sys2Proof.Machine

/-! ### Logging a frame (R260) -/

theorem logFrame_first {s : State} (f : List Byte) (h : s.txCount = 0) :
    logFrame f s = { s with mem := s.mem.fill tx0Base Config.frameCap f, tx0Len := BitVec.ofNat 8 f.length,
                            txCount := s.txCount + 1 } := by
  simp only [logFrame, if_pos h]

theorem logFrame_second {s : State} (f : List Byte) (h : s.txCount ≠ 0) :
    logFrame f s = { s with mem := s.mem.fill tx1Base Config.frameCap f, tx1Len := BitVec.ofNat 8 f.length,
                            txCount := s.txCount + 1 } := by
  simp only [logFrame, if_neg h]

/-! ### The contents of the buffers after they were written (R35 to R37) -/

theorem toNat_frameLen {n : Nat} (h : n ≤ Config.frameCap) : (BitVec.ofNat 8 n).toNat = n := by
  have := Config.frameCap_le
  rw [BitVec.toNat_ofNat, Nat.mod_eq_of_lt (by omega)]

theorem toNat_rxLen {n : Nat} (h : n ≤ Config.rxCap) : (BitVec.ofNat Config.rxLenBits n).toNat = n := by
  have := Config.rxCap_lt
  rw [BitVec.toNat_ofNat, Nat.mod_eq_of_lt (by omega)]

/-- A word that `RX_LEN` takes fits its width (R65). -/
theorem toNat_setWidth_rxLen {v : Word} (h : v.toNat ≤ Config.rxCap) : (v.setWidth Config.rxLenBits).toNat = v.toNat := by
  have := Config.rxCap_lt
  rw [BitVec.toNat_setWidth, Nat.mod_eq_of_lt (by omega)]

/-- `FRAME[0..FRAME_LEN)` is the frame just built. -/
theorem bytes_setFrame {f : List Byte} (h : f.length ≤ Config.frameCap) (s : State) :
    (setFrame f s).mem.bytes frameBase (setFrame f s).frameLen.toNat = f := by
  rw [setFrame_mem, setFrame_frameLen, toNat_frameLen h, Memory.bytes_fill _ _ _ _ h]

/-- `RX[0..RX_LEN)` is the response just stored. -/
theorem rxBytes_storeRx {r : List Byte} (h : r.length ≤ Config.rxCap) (s : State) : rxBytes (storeRx r s) = r := by
  rw [rxBytes, storeRx_mem, storeRx_rxLen, toNat_rxLen h, Memory.bytes_fill _ _ _ _ h]

/-- The first frame logged is in `TX0`. -/
theorem bytes_logFrame_first {f : List Byte} (h : f.length ≤ Config.frameCap) {s : State} (h0 : s.txCount = 0) :
    (logFrame f s).mem.bytes tx0Base (logFrame f s).tx0Len.toNat = f := by
  rw [logFrame_first f h0]
  exact (congrArg _ (toNat_frameLen h)).trans (Memory.bytes_fill _ _ _ _ h)

/-- The second frame logged is in `TX1`. -/
theorem bytes_logFrame_second {f : List Byte} (h : f.length ≤ Config.frameCap) {s : State} (h0 : s.txCount ≠ 0) :
    (logFrame f s).mem.bytes tx1Base (logFrame f s).tx1Len.toNat = f := by
  rw [logFrame_second f h0]
  exact (congrArg _ (toNat_frameLen h)).trans (Memory.bytes_fill _ _ _ _ h)

/-! ### Building a frame and going on -/

@[simp] theorem withBuilt_none (s : State) (k : State → List Byte → State) : withBuilt none s k = finish .range s := rfl

@[simp] theorem withBuilt_some (t s : State) (f : List Byte) (k : State → List Byte → State) :
    withBuilt (some (t, f)) s k = k t f := rfl

theorem withBuilt_cases (built : Option (State × List Byte)) (s : State) (k : State → List Byte → State) :
    built = none ∧ withBuilt built s k = finish .range s ∨
      ∃ t f, built = some (t, f) ∧ withBuilt built s k = k t f := by
  rcases built with _ | ⟨t, f⟩
  · exact .inl ⟨rfl, rfl⟩
  · exact .inr ⟨t, f, rfl, rfl⟩

@[simp] theorem ndtpBuild_auth (s : State) :
    ndtpBuild .auth s = some (ndtpPut (ndtpAuthFrame Config.params s) s, ndtpAuthFrame Config.params s) := rfl

theorem ndtpBuild_data {s : State} (h : coordsOk s = true) :
    ndtpBuild .data s = some (ndtpPut (ndtpNavFrame Config.params s) s, ndtpNavFrame Config.params s) := by
  simp only [ndtpBuild, h, if_true]

theorem ndtpBuild_data_none {s : State} (h : coordsOk s = false) : ndtpBuild .data s = none := by
  simp [ndtpBuild, h]

theorem egtsBuild_some {s : State} (h : coordsOk s = true) :
    egtsBuild s =
      some (setFrame (egtsFrame s) { s with egtsPid := s.egtsPid + 1, egtsRn := s.egtsRn + 1 }, egtsFrame s) := by
  simp only [egtsBuild, h, if_true]

theorem egtsBuild_none {s : State} (h : coordsOk s = false) : egtsBuild s = none := by
  simp [egtsBuild, h]

theorem ntcBuild_auth {s : State} (h : devid15Ok s = true) :
    ntcBuild .auth s = some (setFrame (ntcAuthFrame Config.params s) s, ntcAuthFrame Config.params s) := by
  simp only [ntcBuild, h, if_true]

theorem ntcBuild_auth_none {s : State} (h : devid15Ok s = false) : ntcBuild .auth s = none := by
  simp [ntcBuild, h]

theorem ntcBuild_data {s : State} (h : coordsOk s = true) :
    ntcBuild .data s =
      some (setFrame (ntcDataFrame Config.params s) { s with ntcRn := s.ntcRn + 1 }, ntcDataFrame Config.params s) := by
  simp only [ntcBuild, h, if_true]

theorem ntcBuild_data_none {s : State} (h : coordsOk s = false) : ntcBuild .data s = none := by
  simp [ntcBuild, h]

@[simp] theorem wlnBuild_auth (s : State) : wlnBuild .auth s = some (setFrame (wlnAuthLine s) s, wlnAuthLine s) := rfl

theorem wlnBuild_data {s : State} (h : coordsOk s = true) :
    wlnBuild .data s = some (setFrame (wlnDataLine s) s, wlnDataLine s) := by
  simp only [wlnBuild, h, if_true]

theorem wlnBuild_data_none {s : State} (h : coordsOk s = false) : wlnBuild .data s = none := by
  simp [wlnBuild, h]

/-! ### The range predicates read the packet registers only -/

theorem coordsOk_congr {s t : State} (hlat : t.lat = s.lat) (hlon : t.lon = s.lon) : coordsOk t = coordsOk s := by
  unfold coordsOk; rw [hlat, hlon]

theorem devid15Ok_congr {s t : State} (hlo : t.devidLo = s.devidLo) (hhi : t.devidHi = s.devidHi) :
    devid15Ok t = devid15Ok s := by
  unfold devid15Ok devid; rw [hlo, hhi]

/-! ### The two answers of the transport (R260) -/

/-- Everything a write answer can do. -/
theorem onWriteAnswer_cases (w : WriteAnswer) (s : State) :
    (∃ leg f, s.pos = .awaitWrite leg f ∧
      (w = .ok f.length ∧ onWriteAnswer w s = issueRead leg (logFrame f s) ∨
       w ≠ .ok f.length ∧ onWriteAnswer w s = finish .transport s)) ∨
    ((∀ leg f, s.pos ≠ .awaitWrite leg f) ∧ onWriteAnswer w s = s) := by
  rcases hp : s.pos with _ | ⟨leg, f⟩ | leg
  · exact .inr ⟨by simp, by simp [onWriteAnswer, hp]⟩
  · refine .inl ⟨leg, f, rfl, ?_⟩
    rcases w with n | _
    · by_cases h : n = f.length
      · exact .inl ⟨by rw [h], by simp [onWriteAnswer, hp, h]⟩
      · exact .inr ⟨by simpa using h, by simp [onWriteAnswer, hp, h]⟩
    · exact .inr ⟨by simp, by simp [onWriteAnswer, hp]⟩
  · exact .inr ⟨by simp, by simp [onWriteAnswer, hp]⟩

/-- Everything a read answer can do. -/
theorem onReadAnswer_cases (a : ReadAnswer) (s : State) :
    (∃ leg, s.pos = .awaitRead leg ∧
      ((∃ r, a = .ok r ∧ onReadAnswer a s = afterRead leg r.bytes (storeRx r.bytes s)) ∨
       a = .err ∧ onReadAnswer a s = finish .transport s)) ∨
    ((∀ leg, s.pos ≠ .awaitRead leg) ∧ onReadAnswer a s = s) := by
  rcases hp : s.pos with _ | ⟨leg, f⟩ | leg
  · exact .inr ⟨by simp, by simp [onReadAnswer, hp]⟩
  · exact .inr ⟨by simp, by simp [onReadAnswer, hp]⟩
  · refine .inl ⟨leg, rfl, ?_⟩
    rcases a with r | _
    · exact .inl ⟨r, rfl, by simp [onReadAnswer, hp]⟩
    · exact .inr ⟨rfl, by simp [onReadAnswer, hp]⟩

/-! ### The host port and the step -/

theorem runWord_legal {w : Half} {i : Instr} (h : decode w = .ok i) (s : State) : runWord w s = exec i s := by
  simp [runWord, h]

theorem runWord_illegal {w : Half} {e : Illegal} (h : decode w = .error e) (s : State) :
    runWord w s = .next (illegalWord s) := by
  simp [runWord, h]

@[simp] theorem busy_events (s : State) (es : List Event) : busy { s with events := es } = busy s := rfl

theorem hostWrite_misaligned {a : PortAddr} (h : a.toNat % 4 ≠ 0) (v : Word) (s : State) :
    hostWrite a v s = .next s := by
  simp [hostWrite, aligned, h]

theorem hostWrite_cmd_busy {s : State} (h : busy s = true) (v : Word) : hostWrite 0x000 v s = .next (dropWrite s) := by
  simp [hostWrite, aligned, h]

theorem hostWrite_cmd_idle {s : State} (h : busy s = false) (v : Word) :
    hostWrite 0x000 v s = runWord (v.setWidth 16) s := by
  simp [hostWrite, aligned, h]

theorem hostWrite_register {a : PortAddr} (h4 : a.toNat % 4 = 0) (h0 : a ≠ 0x000) (v : Word) (s : State) :
    hostWrite a v s = .next (writeRegister a.toNat v s) := by
  unfold hostWrite
  rw [if_pos (by simpa [aligned] using h4), if_neg h0]

/-- Everything a host write can do. -/
theorem hostWrite_cases (a : PortAddr) (v : Word) (s : State) :
    hostWrite a v s = .next s ∨ (a = 0x000 ∧ busy s = true ∧ hostWrite a v s = .next (dropWrite s)) ∨
    (a = 0x000 ∧ busy s = false ∧ hostWrite a v s = runWord (v.setWidth 16) s) ∨
    (a.toNat % 4 = 0 ∧ a ≠ 0x000 ∧ hostWrite a v s = .next (writeRegister a.toNat v s)) := by
  by_cases h4 : a.toNat % 4 = 0
  · by_cases h0 : a = 0x000
    · subst h0
      cases hb : busy s
      · exact .inr (.inr (.inl ⟨rfl, rfl, hostWrite_cmd_idle hb v⟩))
      · exact .inr (.inl ⟨rfl, rfl, hostWrite_cmd_busy hb v⟩)
    · exact .inr (.inr (.inr ⟨h4, h0, hostWrite_register h4 h0 v s⟩))
  · exact .inl (hostWrite_misaligned h4 v s)

/-- Everything a `CMD` word can do. -/
theorem runWord_cases (w : Half) (s : State) :
    (∃ i, decode w = .ok i ∧ runWord w s = exec i s) ∨ (∃ e, decode w = .error e ∧ runWord w s = .next (illegalWord s)) := by
  rcases h : decode w with e | i
  · exact .inr ⟨e, rfl, runWord_illegal h s⟩
  · exact .inl ⟨i, rfl, runWord_legal h s⟩

/-- Everything a write to an address other than `CMD` can do (R62 to R65). -/
theorem writeRegister_cases (a : Nat) (v : Word) (s : State) :
    writeRegister a v s = s ∨ writeRegister a v s = dropWrite s ∨ writeRegister a v s = { s with ovr := false } ∨
    (busy s = false ∧
      (writeRegister a v s = { s with devidLo := v } ∨ writeRegister a v s = { s with devidHi := v } ∨
       writeRegister a v s = { s with time := v } ∨ writeRegister a v s = { s with lat := v } ∨
       writeRegister a v s = { s with lon := v } ∨
       (v.toNat ≤ Config.rxCap ∧ writeRegister a v s = { s with rxLen := v.setWidth Config.rxLenBits }) ∨
       (inWindow rxBase Config.rxCap a = true ∧ writeRegister a v s = { s with mem := s.mem.write a (v.setWidth 8) }))) := by
  unfold writeRegister unlessBusy setRxLen
  split <;> split <;> simp_all
  all_goals split <;> simp_all

@[simp] theorem step_no_event {s : State} (h : s.events = []) : step s = .next s := by
  simp [step, takeEvent, h]

theorem step_event {s : State} {e : Event} {rest : List Event} (h : s.events = e :: rest) :
    step s = deliver e { s with events := rest } := by
  simp [step, takeEvent, h]

/-- Everything one step can do. -/
theorem step_cases (s : State) :
    (s.events = [] ∧ step s = .next s) ∨
    ∃ e rest, s.events = e :: rest ∧ step s = deliver e { s with events := rest } := by
  rcases h : s.events with _ | ⟨e, rest⟩
  · exact .inl ⟨rfl, step_no_event h⟩
  · exact .inr ⟨e, rest, rfl, step_event h⟩

/-! ### Lengths of the serialisations (R12) -/

@[simp] theorem length_le16 (v : Half) : (le16 v).length = 2 := rfl
@[simp] theorem length_le32 (v : Word) : (le32 v).length = 4 := rfl
@[simp] theorem length_be16 (v : Half) : (be16 v).length = 2 := rfl
@[simp] theorem length_be32 (v : Word) : (be32 v).length = 4 := rfl
@[simp] theorem length_zeros (n : Nat) : (zeros n).length = n := by simp [zeros]
@[simp] theorem length_ascii (cs : List Char) : (ascii cs).length = cs.length := by simp [ascii]

/-- The decimal text of a number below 10^(w+1) has at most w + 1 digits. -/
theorem length_decDigits_le (fuel n w : Nat) (acc : List Byte) (h : n < 10 ^ (w + 1)) :
    (decDigits fuel n acc).length ≤ w + 1 + acc.length := by
  induction fuel generalizing n w acc with
  | zero => simp [decDigits]
  | succ fuel ih =>
    simp only [decDigits]
    split
    · simp only [List.length_cons]
      omega
    · rcases w with _ | w
      · simp only [Nat.zero_add, Nat.pow_one] at h
        omega
      · have := ih (n / 10) w (digit (n % 10) :: acc) (by rw [Nat.pow_succ] at h; omega)
        simp only [List.length_cons] at this
        omega

theorem length_dec_le {n w : Nat} (h : n < 10 ^ (w + 1)) : (dec n).length ≤ w + 1 :=
  length_decDigits_le _ n w [] h

/-- R131: `dec0(n, w)` has exactly `w` characters where `n` < 10^w. -/
theorem length_dec0 {n w : Nat} (h : n < 10 ^ (w + 1)) : (dec0 n (w + 1)).length = w + 1 := by
  have := length_dec_le h
  simp only [dec0, List.length_append, List.length_replicate]
  omega

end Sys2Proof.Machine
end

