-- ==== Sys2Proof/Laws/PerInstr.lean ====
section
/-! SUPPORT. What is shown instruction by instruction: the two fields of every command's word (R80, R86). -/

namespace Sys2Proof.Laws

theorem wordOp_append (a b : Byte) : wordOp (a ++ b : Half) = a := by
  ext i hi
  simp only [wordOp, BitVec.getElem_extractLsb', BitVec.getLsbD_append]
  rw [if_neg (by omega)]
  simp [BitVec.getLsbD_eq_getElem hi]

theorem wordOpd_append (a b : Byte) : wordOpd (a ++ b : Half) = b := by
  ext i hi
  simp only [wordOpd, BitVec.getElem_extractLsb', BitVec.getLsbD_append]
  rw [if_pos (by omega)]
  simp [BitVec.getLsbD_eq_getElem hi]

/-- The word of a command holds its opcode in bits 15..8 and its operand in bits 7..0 (R80). -/
def EncodingFormat.Statement (i : Instr) : Prop :=
  wordOp (encode i) = opcodeOf i ∧ wordOpd (encode i) = operandOf i

theorem encoding_fields (i : Instr) : EncodingFormat.Statement i := ⟨wordOp_append _ _, wordOpd_append _ _⟩

theorem EncodingFormat.nop : EncodingFormat.Statement .nop := encoding_fields _
theorem EncodingFormat.sessNew (p : Protocol) : EncodingFormat.Statement (.sessNew p) := encoding_fields _
theorem EncodingFormat.send (p : Protocol) : EncodingFormat.Statement (.send p) := encoding_fields _
theorem EncodingFormat.crc8Init : EncodingFormat.Statement .crc8Init := encoding_fields _
theorem EncodingFormat.crc8Upd (b : Byte) : EncodingFormat.Statement (.crc8Upd b) := encoding_fields _
theorem EncodingFormat.crc16cInit : EncodingFormat.Statement .crc16cInit := encoding_fields _
theorem EncodingFormat.crc16cUpd (b : Byte) : EncodingFormat.Statement (.crc16cUpd b) := encoding_fields _
theorem EncodingFormat.crc16mInit : EncodingFormat.Statement .crc16mInit := encoding_fields _
theorem EncodingFormat.crc16mUpd (b : Byte) : EncodingFormat.Statement (.crc16mUpd b) := encoding_fields _
theorem EncodingFormat.xorInit : EncodingFormat.Statement .xorInit := encoding_fields _
theorem EncodingFormat.xorUpd (b : Byte) : EncodingFormat.Statement (.xorUpd b) := encoding_fields _
theorem EncodingFormat.packNdtpa : EncodingFormat.Statement .packNdtpa := encoding_fields _
theorem EncodingFormat.packNdtpn : EncodingFormat.Statement .packNdtpn := encoding_fields _
theorem EncodingFormat.packEgts : EncodingFormat.Statement .packEgts := encoding_fields _
theorem EncodingFormat.packNtca : EncodingFormat.Statement .packNtca := encoding_fields _
theorem EncodingFormat.packNtcd : EncodingFormat.Statement .packNtcd := encoding_fields _
theorem EncodingFormat.packWlna : EncodingFormat.Statement .packWlna := encoding_fields _
theorem EncodingFormat.packWlnd : EncodingFormat.Statement .packWlnd := encoding_fields _
theorem EncodingFormat.ackChk (k : BitVec 3) : EncodingFormat.Statement (.ackChk k) := encoding_fields _

end Sys2Proof.Laws
end

