-- ==== Sys2Proof/Tests/Slice0.lean ====
section
/-! SUPPORT. The model's own tests. Expected values come from spec/95_test_vectors.md, whose section each docstring
names. Its frames are computed with the placeholder parameters of R8, which stand here and nowhere in the model. The last
part shows, for every obligation with hypotheses, a concrete state that meets them. -/

namespace Sys2Proof.Tests
open Sys2Proof Sys2Proof.Machine

-- One theorem at a time: many kernel evaluations at once exhaust the checker's threads.
set_option Elab.async false

/-! ### Helpers -/

/-- R8's placeholders; the open templates have no value there, and a one-byte string stands for them. -/
def placeholder : Params where
  ndtpSig := #v[0x7E, 0x7E]
  ndtpAuthSvc := 0
  ndtpAuthType := 100
  ndtpAuthNphf := 1
  ndtpNavSvc := 1
  ndtpNavType := 101
  ndtpNavNphf := 1
  ndtpAuthCaps := 0x0000
  ndtpAuthMss := 0x0400
  ndtpNack := default
  egtsAck := default
  ntcSig := #v[0x40, 0x4E, 0x54, 0x43]
  ntcAuthTag := #v[0x2A, 0x3E, 0x53, 0x3A]
  ntcDataTag := #v[0x2A, 0x3E, 0x54]
  ntcAuthOk := default
  ntcDataOk := default
  ntcLayout := default

/-- The fixture packet of §1.1 in a reset block. -/
def fix : State :=
  { State.reset with
    devidHi := 0x00007048, devidLo := 0x860DDF79, time := 0x5FEE6600, lat := 0x213BA8F0, lon := 0x166BF1C8 }

/-- The fixture with both coordinates negative (§3.8). -/
def neg : State := { fix with lat := -557558000, lon := -376173000 }

/-- The limits of the ranges: latitude +90, longitude -180 degrees, device id 10^15 - 1. -/
def limits : State :=
  { fix with lat := 900000000, lon := -1800000000, devidHi := 232830, devidLo := BitVec.ofNat 32 (10 ^ 15 - 1) }

/-- One unit past the latitude limit, and device id 10^15. -/
def beyond : State :=
  { fix with lat := -900000001, devidHi := 232830, devidLo := BitVec.ofNat 32 (10 ^ 15) }

/-- `s` with the events `es` to come. -/
def upcoming (s : State) (es : List Event) : State := { s with events := es }

/-- The field `f` of the next state, if there is one. -/
def after {α : Type} (o : Host.Outcome State Fault Refusal) (f : State → α) : Option α :=
  match o with
  | .next t => some (f t)
  | .fault _ => none
  | .refused _ => none

/-- `FRAME[0..FRAME_LEN)`. -/
def frame (s : State) : List Byte := s.mem.bytes frameBase s.frameLen.toNat

/-- A response of the literal bytes. -/
def authOk : Response := ⟨Config.wlnAuthOk, Nat.le_trans (by decide) Config.le_rxCap⟩
def dataOk : Response := ⟨Config.wlnDataOk, Config.le_rxCap⟩
def empty : Response := ⟨[], Nat.zero_le _⟩

/-- The response that is the template. -/
def echo (T : Template) : Response := ⟨T.bytes, T.fits⟩

/-- The template with its first byte changed. -/
def flipped (T : Template) : Response := ⟨T.bytes.set 0 (T.bytes.getD 0 0 + 1), by simpa using T.fits⟩

/-- A command that ends by building `f` leaves `f` in `FRAME`. -/
theorem after_frame {o : Host.Outcome State Fault Refusal} {c : Code} {f : List Byte} {s : State}
    (h : o = .next (finish c (setFrame f s))) (hf : f.length ≤ 91) : after o frame = some f := by
  subst h
  exact congrArg some (bytes_setFrame (Nat.le_trans hf Config.le_frameCap) s)

theorem echo_ne (T : Template) : empty.bytes ≠ T.bytes := fun h => T.nonempty h.symm

theorem flip_byte : ∀ b : Byte, b + 1 ≠ b := by decide

/-! ### Well-formedness (R80, R83) -/

theorem test_ackChk_5_wellFormed : (Instr.ackChk 5).wellFormed = true := by decide
theorem test_ackChk_6_refused : (Instr.ackChk 6).wellFormed = false := by decide
theorem test_ackChk_7_refused : (Instr.ackChk 7).wellFormed = false := by decide

/-! ### Decoding: words written out from R80 to R84, one at least for every constructor -/

theorem test_decode_nop : decode 0b0000000000000000 = .ok .nop := by decide
theorem test_decode_sessNew : decode 0b0000000100000011 = .ok (.sessNew .wln) := by decide
theorem test_decode_send : decode 0b0000001000000010 = .ok (.send .ntc) := by decide
theorem test_decode_crc8Init : decode 0b0001000000000000 = .ok .crc8Init := by decide
theorem test_decode_crc8Upd : decode 0b0001000110100101 = .ok (.crc8Upd 0xA5) := by decide
theorem test_decode_crc16cInit : decode 0b0001001000000000 = .ok .crc16cInit := by decide
theorem test_decode_crc16cUpd : decode 0b0001001110100101 = .ok (.crc16cUpd 0xA5) := by decide
theorem test_decode_crc16mInit : decode 0b0001010000000000 = .ok .crc16mInit := by decide
theorem test_decode_crc16mUpd : decode 0b0001010110100101 = .ok (.crc16mUpd 0xA5) := by decide
theorem test_decode_xorInit : decode 0b0001011000000000 = .ok .xorInit := by decide
theorem test_decode_xorUpd : decode 0b0001011110100101 = .ok (.xorUpd 0xA5) := by decide
theorem test_decode_packNdtpa : decode 0b0010000000000000 = .ok .packNdtpa := by decide
theorem test_decode_packNdtpn : decode 0b0010000100000000 = .ok .packNdtpn := by decide
theorem test_decode_packEgts : decode 0b0010001000000000 = .ok .packEgts := by decide
theorem test_decode_packNtca : decode 0b0010001100000000 = .ok .packNtca := by decide
theorem test_decode_packNtcd : decode 0b0010010000000000 = .ok .packNtcd := by decide
theorem test_decode_packWlna : decode 0b0010010100000000 = .ok .packWlna := by decide
theorem test_decode_packWlnd : decode 0b0010011000000000 = .ok .packWlnd := by decide
theorem test_decode_ackChk : decode 0b0011000000000101 = .ok (.ackChk 5) := by decide
theorem test_decode_protocols :
    decode 0x0100 = .ok (.sessNew .ndtp) ∧ decode 0x0201 = .ok (.send .egts) := by decide
/-- §5. -/
theorem test_decode_illegal :
    decode 0x0001 = .error .operandZ ∧ decode 0x0104 = .error .operandP ∧ decode 0x1800 = .error .opcode ∧
    decode 0x2601 = .error .operandZ ∧ decode 0x2700 = .error .opcode ∧ decode 0x3006 = .error .operandK ∧
    decode 0x3008 = .error .operandK := by decide
/-- §5: bits 31..16 of the host's word are ignored. -/
theorem test_cmd_high_bits_ignored : after (step (upcoming fix [.hostWrite 0 0x12345013])) State.code = some .illegal := by
  decide +kernel
theorem test_tableWord : decodeTableWord 16 0x3005 = some (.ackChk 5) ∧ decodeTableWord 16 0x3006 = none := by decide

/-! ### Checksums (§2.1, §2.2) -/

theorem test_check_values :
    crc8 [0x31, 0x32, 0x33, 0x34, 0x35, 0x36, 0x37, 0x38, 0x39] = 0xF7 ∧
    crc16c [0x31, 0x32, 0x33, 0x34, 0x35, 0x36, 0x37, 0x38, 0x39] = 0x29B1 ∧
    crc16m [0x31, 0x32, 0x33, 0x34, 0x35, 0x36, 0x37, 0x38, 0x39] = 0x4B37 ∧
    xor8 [0x31, 0x32, 0x33, 0x34, 0x35, 0x36, 0x37, 0x38, 0x39] = 0x31 := by decide +kernel
theorem test_two_bytes :
    crc8 [0x2A, 0x3E] = 0x69 ∧ crc16c [0x2A, 0x3E] = 0x23BF ∧ crc16m [0x2A, 0x3E] = 0x009F ∧ xor8 [0x2A, 0x3E] = 0x14 := by
  decide +kernel
theorem test_crc8Init : after (exec .crc8Init { fix with crc8Acc := 0 }) State.crc8Acc = some 0xFF := by decide +kernel
theorem test_crc16cInit : after (exec .crc16cInit { fix with crc16cAcc := 0 }) State.crc16cAcc = some 0xFFFF := by
  decide +kernel
theorem test_crc16mInit : after (exec .crc16mInit { fix with crc16mAcc := 0 }) State.crc16mAcc = some 0xFFFF := by
  decide +kernel
theorem test_xorInit : after (exec .xorInit { fix with xorAcc := 0x5A }) State.xorAcc = some 0 := by decide +kernel
theorem test_crc8Upd : after (exec (.crc8Upd 0x32) { fix with crc8Acc := 0x58 }) State.crc8Acc = some 0x60 := by
  decide +kernel
theorem test_crc16cUpd : after (exec (.crc16cUpd 0x32) { fix with crc16cAcc := 0xC782 }) State.crc16cAcc = some 0x3DBA := by
  decide +kernel
theorem test_crc16mUpd : after (exec (.crc16mUpd 0x32) { fix with crc16mAcc := 0x947E }) State.crc16mAcc = some 0xF595 := by
  decide +kernel
theorem test_xorUpd : after (exec (.xorUpd 0x32) { fix with xorAcc := 0x31 }) State.xorAcc = some 0x03 := by decide +kernel

/-! ### Field encoders (§4) -/

theorem test_ntcTs :
    ntcTs 946684799 = [0x17, 0x3B, 0x3B, 0x1F, 0x0C, 0xFF] ∧ ntcTs 951868799 = [0x17, 0x3B, 0x3B, 0x1D, 0x02, 0x00] ∧
    ntcTs 4294967295 = [0x06, 0x1C, 0x0F, 0x07, 0x02, 0x6A] ∧ ntcTs 0 = [0x00, 0x00, 0x00, 0x01, 0x01, 0xE2] := by
  decide +kernel
/-- 290272 and 235959; 070206 and 062815. -/
theorem test_wlnDate :
    wlnDate 68169600 = [0x32, 0x39, 0x30, 0x32, 0x37, 0x32] ∧ wlnTime 86399 = [0x32, 0x33, 0x35, 0x39, 0x35, 0x39] ∧
    wlnDate 4294967295 = [0x30, 0x37, 0x30, 0x32, 0x30, 0x36] ∧
    wlnTime 4294967295 = [0x30, 0x36, 0x32, 0x38, 0x31, 0x35] := by decide +kernel
theorem test_egtsTime :
    egtsTime 0 = 0xB4C2C500 ∧ egtsTime 1262303999 = 0xFFFFFFFF ∧ egtsTime 1709208000 = 0x1AA336C0 := by decide +kernel
theorem test_egtsFrac :
    egtsFrac 5 900000000 = 0x17 ∧ egtsFrac (-557558000) 900000000 = 0x9E982270 ∧
    egtsFrac 900000000 1800000000 = 0x7FFFFFFF ∧ egtsFrac (-1800000000) 1800000000 = 0xFFFFFFFF := by decide +kernel
theorem test_f32 :
    f32 0 = 0 ∧ f32 1 = 0x33D6BF95 ∧ f32 5 = 0x350637BD ∧ f32 123456789 = 0x414587E7 ∧ f32 (-557558000) = 0xC25F05F0 ∧
    f32 1800000000 = 0x43340000 := by decide +kernel
/-- 0000.0000, 0000.0001, 1234.5679, 18000.0000. -/
theorem test_wfield :
    wfield 4 9 = [0x30, 0x30, 0x30, 0x30, 0x2E, 0x30, 0x30, 0x30, 0x30] ∧
    wfield 14 9 = [0x30, 0x30, 0x30, 0x30, 0x2E, 0x30, 0x30, 0x30, 0x31] ∧
    wfield 123456789 9 = [0x31, 0x32, 0x33, 0x34, 0x2E, 0x35, 0x36, 0x37, 0x39] ∧
    wfield (-1800000000) 10 = [0x31, 0x38, 0x30, 0x30, 0x30, 0x2E, 0x30, 0x30, 0x30, 0x30] := by decide +kernel

/-! ### Frames (§3) -/

/-- §3.1. -/
theorem test_ndtpAuthFrame :
    ndtpAuthFrame placeholder fix =
    [0x7E, 0x7E, 0x18, 0x00, 0x02, 0x00, 0x1F, 0xBC, 0x01, 0x00, 0x00, 0x00, 0x00, 0x00, 0x00, 0x00, 0x00, 0x64,
    0x00, 0x01, 0x00, 0x00, 0x00, 0x00, 0x00, 0x06, 0x02, 0x00, 0x00, 0x79, 0xDF, 0x0D, 0x86, 0x00, 0x04, 0x00,
    0x00, 0x00, 0x00] := by
  decide +kernel
/-- §3.2. -/
theorem test_ndtpNavFrame :
    ndtpNavFrame placeholder { fix with ndtpPid := 1 } =
    [0x7E, 0x7E, 0x26, 0x00, 0x02, 0x00, 0x43, 0x3B, 0x01, 0x00, 0x00, 0x00, 0x00, 0x01, 0x00, 0x01, 0x00, 0x65,
    0x00, 0x01, 0x00, 0x01, 0x00, 0x00, 0x00, 0x00, 0x00, 0x00, 0x66, 0xEE, 0x5F, 0xC8, 0xF1, 0x6B, 0x16, 0xF0,
    0xA8, 0x3B, 0x21, 0xE0, 0x00, 0x00, 0x00, 0x00, 0x00, 0x00, 0x00, 0x00, 0x00, 0x00, 0x00, 0x00, 0x00] := by
  decide +kernel
/-- §3.8: the flags follow the longitude's sign alone. -/
theorem test_ndtpNav_signs :
    slice (ndtpNavFrame placeholder neg) 27 40 = [0x00, 0x66, 0xEE, 0x5F, 0xC8, 0xF1, 0x6B, 0x16, 0xF0, 0xA8, 0x3B, 0x21, 0x80] ∧
    nflags 376173000 = 0xE0 := by decide +kernel
theorem test_packNdtpa : after (exec .packNdtpa { fix with ndtpPid := 0xFFFF }) State.ndtpPid = some 0 := by decide +kernel
theorem test_packNdtpn : after (exec .packNdtpn beyond) State.code = some .range := by decide +kernel
/-- §3.3. -/
theorem test_packEgts :
    after (exec .packEgts fix) frame = some
    [0x01, 0x00, 0x03, 0x0B, 0x00, 0x23, 0x00, 0x00, 0x00, 0x01, 0x42, 0x18, 0x00, 0x00, 0x00, 0x01, 0x79, 0xDF,
    0x0D, 0x86, 0x02, 0x02, 0x10, 0x15, 0x00, 0x00, 0x2B, 0xB1, 0x14, 0x70, 0x22, 0x98, 0x9E, 0x7C, 0x0A, 0x80,
    0x35, 0x03, 0x00, 0x00, 0x00, 0x00, 0x00, 0x00, 0x00, 0x00, 0x45, 0x0B] :=
  (after_frame rfl (by decide +kernel)).trans (by decide +kernel)
/-- §3.8: EGTS id wrap. -/
theorem test_packEgts_wrap :
    slice (egtsFrame { fix with egtsPid := 0xFFFF, egtsRn := 0xFFFF }) 46 48 = [0x7B, 0xB8] ∧
    after (exec .packEgts { fix with egtsPid := 0xFFFF, egtsRn := 0xFFFF }) (fun t => (t.egtsPid, t.egtsRn)) =
      some (0, 0) := by decide +kernel
/-- §3.8: negative coordinates. -/
theorem test_egts_signs : slice (egtsFrame neg) 37 38 ++ slice (egtsFrame neg) 46 48 = [0x63, 0x60, 0xF3] := by decide +kernel
/-- §3.4. -/
theorem test_ntcAuthFrame :
    ntcAuthFrame placeholder fix =
    [0x40, 0x4E, 0x54, 0x43, 0x01, 0x00, 0x00, 0x00, 0x00, 0x00, 0x00, 0x00, 0x13, 0x00, 0x4D, 0x46, 0x2A, 0x3E,
    0x53, 0x3A, 0x31, 0x32, 0x33, 0x34, 0x35, 0x36, 0x37, 0x38, 0x39, 0x30, 0x31, 0x32, 0x33, 0x34, 0x35] := by
  decide +kernel
theorem test_packNtca : after (exec .packNtca beyond) (fun t => (t.code, t.frameLen)) = some (.range, 0) := by decide +kernel
/-- §3.5. -/
theorem test_ntcDataFrame :
    ntcDataFrame placeholder fix =
    [0x40, 0x4E, 0x54, 0x43, 0x01, 0x00, 0x00, 0x00, 0x00, 0x00, 0x00, 0x00, 0x4B, 0x00, 0x9B, 0xC8, 0x2A, 0x3E,
    0x54, 0x02, 0x00, 0x00, 0x00, 0x00, 0x00, 0x00, 0x00, 0x00, 0x01, 0x01, 0x15, 0x00, 0x00, 0x00, 0x01, 0x01,
    0x15, 0x42, 0x5F, 0x05, 0xF0, 0x42, 0x16, 0x78, 0x1D] ++
    zeros 46 := by decide +kernel
/-- §3.8: record number wrap. -/
theorem test_packNtcd :
    after (exec .packNtcd { fix with ntcRn := 0xFFFFFFFF }) (fun t => (t.ntcRn, t.code)) = some (0, .ok) := by decide +kernel
/-- §3.8: the largest device id. -/
theorem test_packWlna :
    after (exec .packWlna { fix with devidHi := 0xFFFFFFFF, devidLo := 0xFFFFFFFF }) frame = some
    [0x23, 0x4C, 0x23, 0x31, 0x38, 0x34, 0x34, 0x36, 0x37, 0x34, 0x34, 0x30, 0x37, 0x33, 0x37, 0x30, 0x39, 0x35,
    0x35, 0x31, 0x36, 0x31, 0x35, 0x3B, 0x4E, 0x41, 0x0D, 0x0A] :=
  (after_frame rfl (by decide +kernel)).trans (by decide +kernel)
/-- §3.7. -/
theorem test_packWlnd :
    after (exec .packWlnd fix) frame = some
    [0x23, 0x53, 0x44, 0x23, 0x30, 0x31, 0x30, 0x31, 0x32, 0x31, 0x3B, 0x30, 0x30, 0x30, 0x30, 0x30, 0x30, 0x3B,
    0x35, 0x35, 0x37, 0x35, 0x2E, 0x35, 0x38, 0x30, 0x30, 0x3B, 0x4E, 0x3B, 0x30, 0x33, 0x37, 0x36, 0x31, 0x2E,
    0x37, 0x33, 0x30, 0x30, 0x3B, 0x45, 0x3B, 0x4E, 0x41, 0x3B, 0x4E, 0x41, 0x3B, 0x4E, 0x41, 0x3B, 0x4E, 0x41,
    0x0D, 0x0A] :=
  (after_frame rfl (by decide +kernel)).trans (by decide +kernel)
/-- §3.8: limit values, `9000.0000;N` and `18000.0000;W`. -/
theorem test_packWlnd_limits :
    slice (wlnDataLine limits) 18 42 =
    [0x39, 0x30, 0x30, 0x30, 0x2E, 0x30, 0x30, 0x30, 0x30, 0x3B, 0x4E, 0x3B, 0x31, 0x38, 0x30, 0x30, 0x30, 0x2E,
    0x30, 0x30, 0x30, 0x30, 0x3B, 0x57] := by
  decide +kernel

/-! ### Sequencer, validator and port (§5 to §7) -/

theorem test_nop : after (exec .nop { fix with code := .range }) State.code = some .ok := by decide +kernel
theorem test_sessNew :
    after (exec (.sessNew .egts) { fix with egtsPid := 5, egtsRn := 6, ntcRn := 7 })
      (fun t => (t.egtsPid, t.egtsRn, t.ntcRn)) = some (0, 0, 7) := by decide +kernel
/-- §6 row 6: the frame was built, so the counters moved. -/
theorem test_send_egts_write_error :
    after (runSteps 2 (upcoming fix [.hostWrite 0 0x0201, .writeAnswer .err]))
      (fun t => (t.code, t.txCount, t.egtsPid, t.egtsRn)) = some (.transport, 0, 1, 1) := by decide +kernel
/-- §6 row 14. -/
theorem test_send_out_of_range :
    after (step (upcoming { beyond with txCount := 1, diagNav := true } [.hostWrite 0 0x0201]))
      (fun t => (t.code, t.txCount, t.diagNav, t.egtsPid)) = some (.range, 1, true, 0) := by decide +kernel
/-- §1.3, for `ACK.CHK 4` and `ACK.CHK 5`: the first row and the fourth. -/
theorem test_ackChk :
    after (exec (.ackChk 4) (storeRx Config.wlnAuthOk fix)) State.ackMatch = some true ∧
    after (exec (.ackChk 5) (storeRx Config.wlnAuthOk { fix with ackMatch := true })) State.ackMatch = some false ∧
    after (exec (.ackChk 4) (storeRx (Config.wlnAuthOk ++ [0]) fix)) State.ackMatch = some false := by
  have h (r : List Byte) (hr : r.length ≤ 8) (s : State) (k : BitVec 3) (T : List Byte)
      (hT : templateOf Config.params k = some T) :
      after (exec (.ackChk k) (storeRx r s)) State.ackMatch = some (ackEq r T) := by
    simp only [exec, execAckChk, hT, after, rxBytes_storeRx (Nat.le_trans hr Config.le_rxCap), finish_ackMatch]
  exact ⟨(h _ (by decide) _ 4 _ rfl).trans (by decide), (h _ (by decide) _ 5 _ rfl).trans (by decide),
    (h _ (by decide) _ 4 _ rfl).trans (by decide)⟩
/-- §7 Program 2: `STATUS` reads 0x00000400 after the first call. -/
theorem test_program2_status :
    after (runSteps 6 (upcoming fix
      [.hostWrite 0 0x0203, .writeAnswer (.ok 23), .readAnswer (.ok authOk), .writeAnswer (.ok 56),
       .readAnswer (.ok dataOk), .hostRead 0x004])) (fun t => (t.readData, t.tx0Len, t.tx1Len)) = some (0x400, 23, 56) := by
  decide +kernel
/-- §6 row 17: a busy block drops the command and sets `OVR`. -/
theorem test_busy_drops_cmd :
    after (step (upcoming { fix with pos := .awaitRead .wlnAuth } [.hostWrite 0 0x0000])) State.ovr = some true := by
  decide +kernel
/-- §7 Program 5: a length above `RX_CAP`, whatever the build's, is ignored. -/
theorem test_rxLen_limit :
    after (step (upcoming { fix with lat := 1 } [.hostWrite 0x040 15361])) State.rxLen = some 0 := by
  have h : ¬(15361 : Word).toNat ≤ Config.rxCap := by
    have := Config.rxCap_le
    simp only [BitVec.reduceToNat]
    omega
  exact congrArg (fun s : State => some s.rxLen) (if_neg h)
/-- A length within every build's `RX_CAP` is taken. -/
theorem test_rxLen_taken :
    after (step (upcoming fix [.hostWrite 0x040 8])) (fun t => t.rxLen.toNat) = some 8 := by
  have h : (8 : Word).toNat ≤ Config.rxCap := Config.le_rxCap
  exact (congrArg (fun s : State => some s.rxLen.toNat) (if_pos h)).trans (congrArg some (toNat_setWidth_rxLen h))
/-- `withFetchWord` runs its word from reset. -/
theorem test_withFetchWord : after (step (State.reset.withFetchWord 16 0x11FF)) State.crc8Acc = some 0x00 := by decide +kernel

/-! ### Witnesses: for each obligation with hypotheses, states and operands that meet them -/

/-- The fixture waiting for the answer to leg `leg`'s read, with one frame logged. -/
def reading (leg : Leg) (es : List Event) : State := { fix with pos := .awaitRead leg, txCount := 1, events := es }

/-- The fixture waiting for the answer to the write of `f`, with `n` frames logged. -/
def writing (leg : Leg) (f : List Byte) (n : BitVec 2) (es : List Event) : State :=
  { fix with pos := .awaitWrite leg f, txCount := n, events := es }

theorem test_wit_idle : busy fix = false ∧ busy limits = false ∧ busy beyond = false ∧ busy State.reset = false := by decide
theorem test_wit_coordsOk : coordsOk fix = true ∧ coordsOk neg = true ∧ coordsOk limits = true := by decide
theorem test_wit_devid15Ok : devid15Ok fix = true ∧ devid15Ok limits = true := by decide
theorem test_wit_outOfRange : coordsOk beyond = false ∧ devid15Ok beyond = false ∧ beyond.ntcAuth = false := by decide

theorem test_wit_IllegalWordsWriteOnlyTheCode :
    (∃ e, decode 0xFFFF = .error e) ∧ (0xABCDFFFF : Word).setWidth 16 = (0xFFFF : Half) ∧
    (upcoming fix [.hostWrite 0x000 0xABCDFFFF]).events = .hostWrite 0x000 0xABCDFFFF :: [] :=
  ⟨⟨.opcode, by decide⟩, by decide, rfl⟩
theorem test_wit_StepRunsTheDecodedCommand :
    decode ((0x000011FF : Word).setWidth 16) = .ok (.crc8Upd 0xFF) ∧ decodeTableWord 16 0x11FF = some (.crc8Upd 0xFF) := by
  decide
theorem test_wit_EveryStepAnswersAState : State.reset.events = [] := rfl
/-- The first and the last byte of `RX`, and the address behind it. -/
theorem test_wit_rxWindow :
    inWindow rxBase Config.rxCap 0x1000 = true ∧ inWindow rxBase Config.rxCap (0x1000 + 4 * (Config.rxCap - 1)) = true ∧
    inWindow rxBase Config.rxCap (0x1000 + 4 * Config.rxCap) = false := by
  have := Config.le_rxCap
  refine ⟨decide_eq_true ⟨Nat.le_refl _, ?_, rfl⟩, decide_eq_true ?_, decide_eq_false ?_⟩ <;> simp only [rxBase] <;> omega
theorem test_wit_BusyBlockDropsProtectedWrites :
    busy (reading .egts [.hostWrite 0x1000 1]) = true ∧ busyProtected 0x000 = true ∧ busyProtected 0x008 = true ∧
    busyProtected 0x018 = true ∧ busyProtected 0x040 = true ∧ busyProtected 0x1000 = true ∧ busyProtected 0x004 = false :=
  ⟨rfl, rfl, rfl, rfl, rfl, test_wit_rxWindow.1, rfl⟩
theorem test_wit_MisalignedAccessesDoNothing : (1 : PortAddr).toNat % 4 ≠ 0 ∧ (0xFFFF : PortAddr).toNat % 4 ≠ 0 := by decide
theorem test_wit_ReservedAccessesDoNothing :
    listedAddr 0x04C = false ∧ listedAddr 0x3FC = false ∧ listedAddr 0xFFC = false ∧ listedAddr 0x048 = true ∧
    inWindow frameBase Config.frameCap (0x400 : PortAddr).toNat = true ∧
    inWindow frameBase Config.frameCap (0x400 + 4 * (Config.frameCap - 1)) = true ∧
    inWindow tx0Base Config.frameCap (0x600 : PortAddr).toNat = true ∧
    inWindow tx1Base Config.frameCap (0x800 : PortAddr).toNat = true := by
  have := Config.le_frameCap
  have := Config.frameCap_le
  simp [listedAddr, isBufferAddr, inWindow, frameBase, tx0Base, tx1Base, rxBase]
  omega
theorem test_wit_HostAccessesOfAnIdleBlock :
    busy (upcoming fix [.hostWrite 0x004 0x20]) = false ∧ busy (upcoming fix [.hostWrite 0x018 1, .hostRead 0x018]) = false := by
  decide
theorem test_wit_ResponseBufferWrites :
    CanonicalMemory (upcoming fix [.hostWrite (BitVec.ofNat 16 (rxBase + 4 * 7)) 7]) ∧ 7 < Config.rxCap ∧
    (BitVec.ofNat 32 Config.rxCap).toNat = Config.rxCap ∧ (BitVec.ofNat 32 (Config.rxCap + 1)).toNat = Config.rxCap + 1 := by
  have := Config.le_rxCap
  have := Config.rxCap_le
  refine ⟨⟨⟨.nil, nofun⟩, nofun⟩, by omega, ?_, ?_⟩ <;> rw [BitVec.toNat_ofNat, Nat.mod_eq_of_lt] <;> omega
theorem test_wit_PowerResetFromAnyState : (reading .egts [.powerReset]).events = .powerReset :: [] := rfl
theorem test_wit_HostCannotEndASend :
    busy (reading .egts [.readAnswer .err]) = true ∧
    step (reading .egts [.readAnswer .err]) = .next (finish .transport (reading .egts [])) ∧
    (finish .transport (reading .egts [])).pos ≠ (reading .egts [.readAnswer .err]).pos :=
  ⟨rfl, rfl, by decide⟩
theorem test_wit_SpanLawOfTheGenerators :
    Instr.crc8Init ∉ [Instr.crc8Upd 0x31, .crc16cInit, .send .egts] ∧
    Instr.crc16cInit ∉ [Instr.crc16cUpd 0x31, .crc8Init] ∧ Instr.crc16mInit ∉ [Instr.crc16mUpd 0x31, .nop] ∧
    Instr.xorInit ∉ [Instr.xorUpd 0x5A, .xorUpd 0x5A] := by decide
theorem test_wit_ChecksumFoldLaws : List.Perm [(1 : Byte), 2] [2, 1] := List.Perm.swap _ _ _

/-- A step that changes an accumulator. -/
theorem test_wit_AccumulatorsChangeByTheirCommandsOnly :
    ∃ t, step (upcoming fix [.hostWrite 0x000 0x11FF]) = .next t ∧ t.crc8Acc ≠ fix.crc8Acc :=
  ⟨_, rfl, by decide +kernel⟩
/-- A step that changes a packet register. -/
theorem test_wit_PacketRegistersChangeByTheHostOnly :
    ∃ t, step (upcoming fix [.hostWrite 0x014 5]) = .next t ∧ t.lat ≠ fix.lat :=
  ⟨_, rfl, by decide +kernel⟩
theorem test_wit_WialonAuthenticatesByMatchOnly :
    ∃ t, step (reading .wlnAuth [.readAnswer (.ok authOk)]) = .next t ∧
      (reading .wlnAuth [.readAnswer (.ok authOk)]).wlnAuth = false ∧ t.wlnAuth = true :=
  ⟨_, rfl, rfl, by decide +kernel⟩
theorem test_wit_AuthFlagsClearedByNewSessionOnly :
    ∃ t, step (upcoming { fix with ntcAuth := true } [.hostWrite 0x000 0x0102]) = .next t ∧ t.ntcAuth = false :=
  ⟨_, rfl, by decide +kernel⟩
theorem test_wit_CountersMoveByOne :
    ∃ t, step (upcoming { fix with egtsPid := 0xFFFF } [.hostWrite 0x000 0x2200]) = .next t ∧ t.egtsPid = 0 :=
  ⟨_, rfl, by decide +kernel⟩

/-- A step that sets `OVR`, and one that ends a `SEND`. -/
theorem test_wit_StatusFlagsChangeByTheirRules :
    (∃ t, step (reading .egts [.hostWrite 0x040 1]) = .next t ∧ t.ovr = true) ∧
    ∃ t, step (reading .egts [.readAnswer .err]) = .next t ∧ t.code = .transport :=
  ⟨⟨_, rfl, by decide +kernel⟩, _, rfl, by decide +kernel⟩

theorem test_wit_builds :
    (ndtpBuild .auth fix).isSome = true ∧ (ndtpBuild .data limits).isSome = true ∧ (egtsBuild neg).isSome = true ∧
    (ntcBuild .auth limits).isSome = true ∧ (ntcBuild .data limits).isSome = true ∧ (wlnBuild .auth beyond).isSome = true ∧
    (wlnBuild .data limits).isSome = true := by decide
theorem test_wit_DecimalTextIsTheNumber : 0 < 10 ^ 1 ∧ 999 < 10 ^ 3 ∧ (999 : Nat) ≠ 0 := by decide
theorem test_wit_EgtsFractionIsTheFloor :
    (900000000 : Word).toInt.natAbs ≤ 900000000 ∧ (-900000000 : Word).toInt.natAbs = 900000000 ∧
    (-1800000000 : Word).toInt.natAbs = 1800000000 ∧ (0 : Word).toInt.natAbs ≤ 1800000000 := by decide
theorem test_wit_Binary32IsCorrectlyRounded :
    (1 : Word) ≠ 0 ∧ (1 : Word).toInt.natAbs ≤ 1800000000 ∧ (-1800000000 : Word).toInt.natAbs ≤ 1800000000 := by decide

theorem test_wit_AckChkComparesByteExact :
    templateOf Config.params 0 = some Config.params.ndtpNack.bytes ∧ templateOf Config.params 5 = some Config.wlnDataOk ∧
    (5 : BitVec 3).toNat ≤ 5 ∧ 5 < (6 : BitVec 3).toNat ∧ 5 < (7 : BitVec 3).toNat :=
  ⟨rfl, rfl, by decide⟩
/-- One leg whose mismatch is fatal, and one of NDTP. -/
theorem test_wit_OneWrongByteIsAMismatch :
    (0 < (legTemplate Config.params .egts).length ∧
      Config.params.egtsAck.bytes.getD 0 0 + 1 ≠ (legTemplate Config.params .egts).getD 0 0 ∧
      (flipped Config.params.egtsAck).bytes =
        (legTemplate Config.params .egts).set 0 (Config.params.egtsAck.bytes.getD 0 0 + 1)) ∧
    0 < (legTemplate Config.params .ndtpNav).length ∧
      Config.params.ndtpNack.bytes.getD 0 0 + 1 ≠ (legTemplate Config.params .ndtpNav).getD 0 0 ∧
      (flipped Config.params.ndtpNack).bytes =
        (legTemplate Config.params .ndtpNav).set 0 (Config.params.ndtpNack.bytes.getD 0 0 + 1) :=
  ⟨⟨List.length_pos_iff.mpr Config.params.egtsAck.nonempty, flip_byte _, rfl⟩,
    List.length_pos_iff.mpr Config.params.ndtpNack.nonempty, flip_byte _, rfl⟩

theorem test_wit_SendNdtpStarts : fix.ndtpPid = 0 ∧ ({ fix with ndtpPid := 0xFFFF } : State).ndtpPid ≠ 0 := by decide
theorem test_wit_SendNavtelecomStarts :
    fix.ntcAuth = false ∧ devid15Ok limits = true ∧ ({ beyond with lat := 0, ntcAuth := true } : State).ntcAuth = true ∧
    coordsOk { beyond with lat := 0, ntcAuth := true } = true := by decide
theorem test_wit_SendWialonStarts : fix.wlnAuth = false ∧ ({ fix with wlnAuth := true } : State).wlnAuth = true := by decide

/-- A short write, a failed write and a failed read. -/
theorem test_wit_TransportErrorsEndTheSend :
    (writing .egts [1, 2] 0 [.writeAnswer (.ok 1)]).pos = .awaitWrite .egts [1, 2] ∧
    WriteAnswer.ok 1 ≠ .ok [(1 : Byte), 2].length ∧ WriteAnswer.err ≠ .ok [(1 : Byte), 2].length ∧
    (reading .egts [.readAnswer .err]).pos = .awaitRead .egts := by decide
/-- The first and the second frame of a call; the longest frame. -/
theorem test_wit_WrittenFramesAreLogged :
    (zeros 39).length ≤ Config.frameCap ∧ (zeros 53).length ≤ Config.frameCap ∧ (zeros 91).length ≤ Config.frameCap ∧
    (writing .ndtpAuth (zeros 39) 0 []).txCount.toNat ≤ 1 ∧
    (writing .ndtpNav (zeros 53) 1 [.writeAnswer (.ok 53)]).txCount.toNat ≤ 1 ∧
    (writing .ndtpNav (zeros 53) 1 [.writeAnswer (.ok 53)]).events = [.writeAnswer (.ok (zeros 53).length)] := by
  have h (n : Nat) (hn : n ≤ 91) : (zeros n).length ≤ Config.frameCap :=
    (length_zeros n).symm ▸ Nat.le_trans hn Config.le_frameCap
  exact ⟨h _ (by decide), h _ (by decide), h _ (by decide), by decide +kernel⟩
/-- For both outcomes of every row of the table: the template itself, and the empty response, which matches none. -/
theorem test_wit_ResponsePolicyTable :
    (∀ leg r, (reading leg [.readAnswer (.ok r)]).pos = .awaitRead leg ∧
      coordsOk (reading leg [.readAnswer (.ok r)]) = true ∧
      (reading leg [.readAnswer (.ok r)]).events = .readAnswer (.ok r) :: []) ∧
    (∀ T : Template, (echo T).bytes = T.bytes ∧ empty.bytes ≠ T.bytes) ∧
    authOk.bytes = Config.wlnAuthOk ∧ dataOk.bytes = Config.wlnDataOk ∧ empty.bytes ≠ Config.wlnAuthOk ∧
    empty.bytes ≠ Config.wlnDataOk :=
  ⟨fun _ _ => ⟨rfl, test_wit_coordsOk.1, rfl⟩, fun T => ⟨rfl, echo_ne T⟩, rfl, rfl, by decide, by decide⟩

/-- The whole calls: the commands' words, and a response for each branch. -/
theorem test_wit_wholeCalls :
    (0x00000203 : Word).setWidth 16 = (0x0203 : Half) ∧ (0xFFFF0202 : Word).setWidth 16 = (0x0202 : Half) ∧
    (0x00000200 : Word).setWidth 16 = (0x0200 : Half) ∧ (0x00000201 : Word).setWidth 16 = (0x0201 : Half) ∧
    authOk.bytes = Config.wlnAuthOk ∧ empty.bytes ≠ Config.wlnAuthOk ∧ fix.wlnAuth = false ∧ fix.ntcAuth = false ∧
    fix.ndtpPid = 0 := by decide
theorem test_wit_FailedNavtelecomHandshakeAuthenticates : empty.bytes ≠ Config.params.ntcAuthOk.bytes := echo_ne _
theorem test_wit_WialonSendFromStartToFinish :
    after (runSteps 5 (upcoming fix
      [.hostWrite 0 0x0203, .writeAnswer (.ok (wlnAuthLine fix).length), .readAnswer (.ok authOk),
       .writeAnswer (.ok (wlnDataLine fix).length), .readAnswer (.ok empty)])) (fun t => (t.code, t.wlnAuth)) =
    some (.validation, true) := by decide +kernel
/-- A first and a later call, and a step that newly ends with `E_VALIDATION`. -/
theorem test_wit_NdtpSendNeverFailsValidation :
    fix.ndtpPid = 0 ∧ (upcoming { fix with ndtpPid := 0xFFFF } [.hostWrite 0 0x0200]).ndtpPid ≠ 0 ∧
    after (step (reading .wlnAuth [.readAnswer (.ok empty)])) State.code = some .validation := by decide +kernel
theorem test_wit_EgtsSendComparesWithOneTemplate :
    after (runSteps 2 (upcoming fix [.hostWrite 0 0x0201, .writeAnswer (.ok 48), .readAnswer (.ok empty)]))
      (fun t => (t.pos, t.events)) = some (.awaitRead .egts, [.readAnswer (.ok empty)]) := by decide +kernel

/-- A state with a byte in `FRAME`, and a step from it. -/
theorem test_wit_StepKeepsCanonicalMemory :
    CanonicalMemory (upcoming { fix with mem := [(0x400, 7)] } [.hostWrite 0x1000 9]) ∧
    ∃ t, step (upcoming { fix with mem := [(0x400, 7)] } [.hostWrite 0x1000 9]) = .next t ∧
      t.mem = [(0x400, 7), (0x1000, 9)] := by
  refine ⟨⟨by decide, fun c hc => ?_⟩, _, rfl, congrArg State.mem (if_pos test_wit_rxWindow.1)⟩
  obtain rfl := List.mem_singleton.mp hc
  have h : inWindow frameBase Config.frameCap 0x400 = true := test_wit_ReservedAccessesDoNothing.2.2.2.2.1
  simp only [isBufferAddr, h, Bool.true_or]
theorem test_wit_StepKeepsBuffersFilled :
    BuffersFilled (upcoming { fix with mem := [(0x400, 7)], frameLen := 1 } [.hostWrite 0 0x2500]) ∧
    ∃ t, step (upcoming { fix with mem := [(0x400, 7)], frameLen := 1 } [.hostWrite 0 0x2500]) = .next t ∧
      t.frameLen = 23 := by
  have hr : ∀ a : Nat, 0x400 ≠ a → Memory.read [(0x400, 7)] a = 0 := fun _ h => if_neg h
  refine ⟨⟨Nat.le_trans (by decide) Config.le_frameCap, Nat.zero_le _, Nat.zero_le _, Nat.zero_le _, fun i h1 _ => hr _ ?_, 
    fun i _ _ => hr _ ?_, fun i _ _ => hr _ ?_, nofun⟩, _, rfl, by decide +kernel⟩
  · have : 1 ≤ i := h1
    simp only [frameBase]; omega
  · simp only [tx0Base]; omega
  · simp only [tx1Base]; omega
/-- A step from inside a `SEND`. -/
theorem test_wit_StepKeepsSendConsistent :
    SendConsistent (reading .wlnAuth [.readAnswer (.ok authOk)]) ∧
    ∃ t, step (reading .wlnAuth [.readAnswer (.ok authOk)]) = .next t ∧ t.pos = .awaitWrite .wlnData (wlnDataLine fix) :=
  ⟨⟨by decide, rfl, rfl⟩, _, rfl, by decide +kernel⟩

end Sys2Proof.Tests
end

section
/-! SUPPORT. Everything one step can do: first the shared halves of `PACK` and `SEND` as functions of the frame in
transfer, then one inductive predicate each for a command, a response and an event, and the lemma that every step is one
of their cases. -/

namespace Sys2Proof.Machine

/-! ### Building and sending a frame, by the frame (R164, R184, R203, R223, R263 to R266) -/

/-- The frame that is built for `leg` in state `s`. -/
def legFrame : Leg → State → List Byte
  | .ndtpAuth, s => ndtpAuthFrame Config.params s
  | .ndtpNav, s => ndtpNavFrame Config.params s
  | .egts, s => egtsFrame s
  | .ntcAuth, s => ntcAuthFrame Config.params s
  | .ntcData, s => ntcDataFrame Config.params s
  | .wlnAuth, s => wlnAuthLine s
  | .wlnData, s => wlnDataLine s

/-- The counters that the build of `leg`'s frame post-increments. -/
def countFrame (leg : Leg) (s : State) : State :=
  { s with
    ndtpPid := if isNdtpLeg leg then s.ndtpPid + 1 else s.ndtpPid
    egtsPid := if leg = .egts then s.egtsPid + 1 else s.egtsPid
    egtsRn := if leg = .egts then s.egtsRn + 1 else s.egtsRn
    ntcRn := if leg = .ntcData then s.ntcRn + 1 else s.ntcRn }

/-- The flag that a handshake sets before its frame is written (R263, R265; R266 sets none). -/
def markHandshake (leg : Leg) (s : State) : State :=
  { s with
    ndtpAuth := decide (leg = .ndtpAuth) || s.ndtpAuth
    ntcAuth := decide (leg = .ntcAuth) || s.ntcAuth }

/-- The state after the build of `leg`'s frame. -/
def putFrame (leg : Leg) (s : State) : State :=
  { s with
    ndtpPid := (countFrame leg s).ndtpPid
    egtsPid := (countFrame leg s).egtsPid
    egtsRn := (countFrame leg s).egtsRn
    ntcRn := (countFrame leg s).ntcRn
    frameLen := BitVec.ofNat 8 (legFrame leg s).length
    mem := s.mem.fill frameBase Config.frameCap (legFrame leg s) }

/-- The state in which `leg`'s frame is built and handed to the transport. -/
def startLeg (leg : Leg) (s : State) : State :=
  { s with
    ndtpPid := (countFrame leg s).ndtpPid
    egtsPid := (countFrame leg s).egtsPid
    egtsRn := (countFrame leg s).egtsRn
    ntcRn := (countFrame leg s).ntcRn
    ndtpAuth := (markHandshake leg s).ndtpAuth
    ntcAuth := (markHandshake leg s).ntcAuth
    frameLen := BitVec.ofNat 8 (legFrame leg s).length
    mem := s.mem.fill frameBase Config.frameCap (legFrame leg s)
    pos := .awaitWrite leg (legFrame leg s) }

theorem putFrame_eq (leg : Leg) (s : State) : putFrame leg s = setFrame (legFrame leg s) (countFrame leg s) := by
  dsimp only [putFrame, setFrame, countFrame]

theorem startLeg_eq (leg : Leg) (s : State) :
    startLeg leg s = issueWrite leg (legFrame leg s) (markHandshake leg (putFrame leg s)) := by
  dsimp only [startLeg, issueWrite, markHandshake, putFrame]

@[simp] theorem countFrame_ndtpAuth (s : State) : countFrame .ndtpAuth s = { s with ndtpPid := s.ndtpPid + 1 } := rfl
@[simp] theorem countFrame_ndtpNav (s : State) : countFrame .ndtpNav s = { s with ndtpPid := s.ndtpPid + 1 } := rfl
@[simp] theorem countFrame_egts (s : State) :
    countFrame .egts s = { s with egtsPid := s.egtsPid + 1, egtsRn := s.egtsRn + 1 } := rfl
@[simp] theorem countFrame_ntcAuth (s : State) : countFrame .ntcAuth s = s := rfl
@[simp] theorem countFrame_ntcData (s : State) : countFrame .ntcData s = { s with ntcRn := s.ntcRn + 1 } := rfl
@[simp] theorem countFrame_wlnAuth (s : State) : countFrame .wlnAuth s = s := rfl
@[simp] theorem countFrame_wlnData (s : State) : countFrame .wlnData s = s := rfl

/-- The model's builder of `leg`'s frame. -/
def legBuild : Leg → State → Option (State × List Byte)
  | .ndtpAuth => ndtpBuild .auth
  | .ndtpNav => ndtpBuild .data
  | .egts => egtsBuild
  | .ntcAuth => ntcBuild .auth
  | .ntcData => ntcBuild .data
  | .wlnAuth => wlnBuild .auth
  | .wlnData => wlnBuild .data

/-- The range check that the build of `leg`'s frame makes (R130). -/
def legInRange : Leg → State → Bool
  | .ndtpAuth, _ | .wlnAuth, _ => true
  | .ntcAuth, s => devid15Ok s
  | .ndtpNav, s | .egts, s | .ntcData, s | .wlnData, s => coordsOk s

theorem legBuild_inRange {leg : Leg} {s : State} (h : legInRange leg s = true) :
    legBuild leg s = some (putFrame leg s, legFrame leg s) := by
  cases leg with
  | ndtpAuth => simp [legBuild, putFrame_eq, legFrame, ndtpPut]
  | ndtpNav => simp [legBuild, ndtpBuild_data h, putFrame_eq, legFrame, ndtpPut]
  | egts => simp [legBuild, egtsBuild_some h, putFrame_eq, legFrame]
  | ntcAuth => simp [legBuild, ntcBuild_auth h, putFrame_eq, legFrame]
  | ntcData => simp [legBuild, ntcBuild_data h, putFrame_eq, legFrame]
  | wlnAuth => simp [legBuild, putFrame_eq, legFrame]
  | wlnData => simp [legBuild, wlnBuild_data h, putFrame_eq, legFrame]

theorem legBuild_outOfRange {leg : Leg} {s : State} (h : legInRange leg s = false) : legBuild leg s = none := by
  cases leg with
  | ndtpAuth | wlnAuth => cases h
  | ndtpNav => exact ndtpBuild_data_none h
  | egts => exact egtsBuild_none h
  | ntcAuth => exact ntcBuild_auth_none h
  | ntcData => exact ntcBuild_data_none h
  | wlnData => exact wlnBuild_data_none h

theorem withBuilt_legBuild (leg : Leg) (s : State) (k : State → List Byte → State) :
    withBuilt (legBuild leg s) s k =
      if legInRange leg s then k (putFrame leg s) (legFrame leg s) else finish .range s := by
  split
  · next h => rw [legBuild_inRange h, withBuilt_some]
  · next h => rw [legBuild_outOfRange (by simpa using h), withBuilt_none]

/-- The half of a `SEND` procedure that transfers `leg`'s frame, up to its write (R263 to R266). -/
def sendLeg (leg : Leg) (s : State) : State :=
  withBuilt (legBuild leg s) s fun t f => issueWrite leg f (markHandshake leg t)

theorem sendLeg_eq (leg : Leg) (s : State) :
    sendLeg leg s = if legInRange leg s then startLeg leg s else finish .range s := by
  rw [sendLeg, withBuilt_legBuild, startLeg_eq]

theorem sendNdtpAuth_eq (s : State) : sendNdtpAuth s = sendLeg .ndtpAuth s := rfl
theorem sendNdtpNav_eq (s : State) : sendNdtpNav s = sendLeg .ndtpNav s := rfl
theorem sendEgtsFrame_eq (s : State) : sendEgtsFrame s = sendLeg .egts s := rfl
theorem sendNtcAuth_eq (s : State) : sendNtcAuth s = sendLeg .ntcAuth s := rfl
theorem sendNtcData_eq (s : State) : sendNtcData s = sendLeg .ntcData s := rfl
theorem sendWlnAuth_eq (s : State) : sendWlnAuth s = sendLeg .wlnAuth s := rfl
theorem sendWlnData_eq (s : State) : sendWlnData s = sendLeg .wlnData s := rfl

/-! ### Everything a command can do -/

/-- `CommandEffect s i t`: the command `i`, taken in state `s`, answers `t`. -/
inductive CommandEffect (s : State) : Instr → State → Prop
  /-- Nothing but the result code. -/
  | ended (i : Instr) (c : Code) : CommandEffect s i (finish c s)
  | sessNew (p : Protocol) : CommandEffect s (.sessNew p) (finish .ok (newSession p s))
  | crc8 {i : Instr} (hi : i = .crc8Init ∨ ∃ b, i = .crc8Upd b) (x : Byte) :
      CommandEffect s i (finish .ok { s with crc8Acc := x })
  | crc16c {i : Instr} (hi : i = .crc16cInit ∨ ∃ b, i = .crc16cUpd b) (x : Half) :
      CommandEffect s i (finish .ok { s with crc16cAcc := x })
  | crc16m {i : Instr} (hi : i = .crc16mInit ∨ ∃ b, i = .crc16mUpd b) (x : Half) :
      CommandEffect s i (finish .ok { s with crc16mAcc := x })
  | xor {i : Instr} (hi : i = .xorInit ∨ ∃ b, i = .xorUpd b) (x : Byte) :
      CommandEffect s i (finish .ok { s with xorAcc := x })
  | ackChk (k : BitVec 3) (m : Bool) : CommandEffect s (.ackChk k) (finish .ok { s with ackMatch := m })
  | pack (i : Instr) (leg : Leg) : CommandEffect s i (finish .ok (putFrame leg s))
  /-- A `SEND` in range hands its first frame to the transport. -/
  | send (p : Protocol) (leg : Leg) (hc : coordsOk s = true) (hf : legFlags (markHandshake leg s) leg) :
      CommandEffect s (.send p) (startLeg leg (prologue s))

theorem CommandEffect.ofPack (s : State) (i : Instr) (leg : Leg) :
    CommandEffect s i (withBuilt (legBuild leg s) s fun t _ => finish .ok t) := by
  rw [withBuilt_legBuild]
  split
  · exact .pack i leg
  · exact .ended i .range

theorem CommandEffect.ofSend {s : State} (p : Protocol) (leg : Leg) (hc : coordsOk s = true)
    (hr : legInRange leg (prologue s) = true) (hf : legFlags (markHandshake leg s) leg) :
    CommandEffect s (.send p) (sendLeg leg (prologue s)) := by
  rw [sendLeg_eq, if_pos hr]
  exact .send p leg hc hf

theorem sendNdtp_effect (s : State) : CommandEffect s (.send .ndtp) (sendNdtp s) := by
  rw [sendNdtp, sendNdtpAuth_eq, sendNdtpNav_eq]
  split_ifs with hc hp
  · exact .ofSend _ .ndtpAuth hc rfl rfl
  · exact .ofSend _ .ndtpNav hc hc trivial
  · exact .ended _ _

theorem sendEgts_effect (s : State) : CommandEffect s (.send .egts) (sendEgts s) := by
  rw [sendEgts, sendEgtsFrame_eq]
  split_ifs with hc
  · exact .ofSend _ .egts hc hc trivial
  · exact .ended _ _

theorem sendNtc_effect (s : State) : CommandEffect s (.send .ntc) (sendNtc s) := by
  rw [sendNtc, sendNtcAuth_eq, sendNtcData_eq]
  split_ifs with hc ha
  · simp only [Bool.and_eq_true] at hc
    exact .ofSend _ .ntcData hc.1 hc.1 ha
  · simp only [Bool.and_eq_true, Bool.or_eq_true] at hc
    exact .ofSend _ .ntcAuth hc.1 (hc.2.resolve_left ha) rfl
  · exact .ended _ _

theorem sendWln_effect (s : State) : CommandEffect s (.send .wln) (sendWln s) := by
  rw [sendWln, sendWlnAuth_eq, sendWlnData_eq]
  split_ifs with hc ha
  · exact .ofSend _ .wlnData hc hc ha
  · exact .ofSend _ .wlnAuth hc rfl (eq_false_of_ne_true ha)
  · exact .ended _ _

theorem execSend_effect (p : Protocol) (s : State) : ∃ t, execSend p s = .next t ∧ CommandEffect s (.send p) t := by
  cases p with
  | ndtp => exact ⟨_, rfl, sendNdtp_effect s⟩
  | egts => exact ⟨_, rfl, sendEgts_effect s⟩
  | ntc => exact ⟨_, rfl, sendNtc_effect s⟩
  | wln => exact ⟨_, rfl, sendWln_effect s⟩

theorem execAckChk_effect (k : BitVec 3) (s : State) :
    ∃ t, execAckChk k s = .next t ∧ CommandEffect s (.ackChk k) t := by
  unfold execAckChk
  split
  · exact ⟨_, rfl, .ackChk k _⟩
  · exact ⟨_, rfl, .ended _ .illegal⟩

/-- Every command answers a next state, which is one of the cases of `CommandEffect`. -/
theorem exec_effect (i : Instr) (s : State) : ∃ t, exec i s = .next t ∧ CommandEffect s i t := by
  cases i with
  | nop => exact ⟨_, rfl, .ended _ .ok⟩
  | sessNew p => exact ⟨_, rfl, .sessNew p⟩
  | send p => exact execSend_effect p s
  | crc8Init => exact ⟨_, rfl, .crc8 (.inl rfl) _⟩
  | crc8Upd b => exact ⟨_, rfl, .crc8 (.inr ⟨b, rfl⟩) _⟩
  | crc16cInit => exact ⟨_, rfl, .crc16c (.inl rfl) _⟩
  | crc16cUpd b => exact ⟨_, rfl, .crc16c (.inr ⟨b, rfl⟩) _⟩
  | crc16mInit => exact ⟨_, rfl, .crc16m (.inl rfl) _⟩
  | crc16mUpd b => exact ⟨_, rfl, .crc16m (.inr ⟨b, rfl⟩) _⟩
  | xorInit => exact ⟨_, rfl, .xor (.inl rfl) _⟩
  | xorUpd b => exact ⟨_, rfl, .xor (.inr ⟨b, rfl⟩) _⟩
  | packNdtpa => exact ⟨_, rfl, .ofPack s _ .ndtpAuth⟩
  | packNdtpn => exact ⟨_, rfl, .ofPack s _ .ndtpNav⟩
  | packEgts => exact ⟨_, rfl, .ofPack s _ .egts⟩
  | packNtca => exact ⟨_, rfl, .ofPack s _ .ntcAuth⟩
  | packNtcd => exact ⟨_, rfl, .ofPack s _ .ntcData⟩
  | packWlna => exact ⟨_, rfl, .ofPack s _ .wlnAuth⟩
  | packWlnd => exact ⟨_, rfl, .ofPack s _ .wlnData⟩
  | ackChk k => exact execAckChk_effect k s

/-! ### Everything a response can do (R243) -/

/-- The flags that the response `r` to `leg`'s frame sets. -/
def noteResponse (leg : Leg) (r : List Byte) (s : State) : State :=
  { s with
    diagAuth := (decide (leg = .ndtpAuth) && ackEq r (legTemplate Config.params leg)) || s.diagAuth
    diagNav := (decide (leg = .ndtpNav) && ackEq r (legTemplate Config.params leg)) || s.diagNav
    wlnAuth := (decide (leg = .wlnAuth) && ackEq r (legTemplate Config.params leg)) || s.wlnAuth }

theorem noteResponse_ndtpAuth (r : List Byte) (s : State) :
    noteResponse .ndtpAuth r s = if ackEq r Config.params.ndtpNack.bytes then { s with diagAuth := true } else s := by
  split <;> simp_all [noteResponse, legTemplate]

theorem noteResponse_ndtpNav (r : List Byte) (s : State) :
    noteResponse .ndtpNav r s = if ackEq r Config.params.ndtpNack.bytes then { s with diagNav := true } else s := by
  split <;> simp_all [noteResponse, legTemplate]

theorem noteResponse_wlnAuth {r : List Byte} (h : ackEq r Config.wlnAuthOk = true) (s : State) :
    noteResponse .wlnAuth r s = { s with wlnAuth := true } := by
  simp [noteResponse, legTemplate, h]

/-- `ResponseEffect s leg r t`: the response `r` to `leg`'s frame, already stored in `s`, leads to `t`. -/
inductive ResponseEffect (s : State) (leg : Leg) (r : List Byte) : State → Prop
  | ended (c : Code) : ResponseEffect s leg r (finish c (noteResponse leg r s))
  /-- After a handshake the `SEND` goes on with its data frame. -/
  | continued (data : Leg) (ha : isAuthLeg leg = true) (hd : isAuthLeg data = false) (hc : coordsOk s = true)
      (hf : legFlags s leg → legFlags (noteResponse leg r s) data) :
      ResponseEffect s leg r (startLeg data (noteResponse leg r s))

/-- A `SEND` that has passed a handshake transfers its data frame, or ends where the packet is out of range. -/
theorem ResponseEffect.ofData {s : State} {leg data : Leg} {r : List Byte} (ha : isAuthLeg leg = true)
    (hd : isAuthLeg data = false) (hr : legInRange data (noteResponse leg r s) = coordsOk s)
    (hf : legFlags s leg → legFlags (noteResponse leg r s) data) :
    ResponseEffect s leg r (sendLeg data (noteResponse leg r s)) := by
  rw [sendLeg_eq, hr]
  split_ifs with hc
  · exact .continued data ha hd hc hf
  · exact .ended .range

theorem noteResponse_of_ne {leg : Leg} {r : List Byte} (h : ackEq r (legTemplate Config.params leg) = false)
    (s : State) : noteResponse leg r s = s := by
  simp [noteResponse, h]

theorem noteResponse_of_flagless {leg : Leg} (h : leg = .egts ∨ leg = .ntcAuth ∨ leg = .ntcData ∨ leg = .wlnData)
    (r : List Byte) (s : State) : noteResponse leg r s = s := by
  rcases h with rfl | rfl | rfl | rfl <;> rfl

/-- The `SEND` ends at a response that sets no flag. -/
theorem ResponseEffect.ofFlagless {leg : Leg}
    (h : leg = .egts ∨ leg = .ntcAuth ∨ leg = .ntcData ∨ leg = .wlnData) (s : State) (r : List Byte) (c : Code) :
    ResponseEffect s leg r (finish c s) := by
  have := ResponseEffect.ended (s := s) (leg := leg) (r := r) c
  rwa [noteResponse_of_flagless h] at this

theorem afterRead_effect (leg : Leg) (r : List Byte) (s : State) : ResponseEffect s leg r (afterRead leg r s) := by
  cases leg with
  | ndtpAuth =>
    rw [afterRead, ← noteResponse_ndtpAuth, sendNdtpNav_eq]
    exact .ofData rfl rfl rfl fun _ => trivial
  | ndtpNav =>
    rw [afterRead, ← noteResponse_ndtpNav]
    exact .ended .ok
  | egts =>
    rw [afterRead]
    split_ifs
    · exact .ofFlagless (by simp) s r .ok
    · exact .ofFlagless (by simp) s r .validation
  | ntcAuth =>
    rw [afterRead]
    split_ifs
    · rw [sendNtcData_eq]
      exact .ofData (leg := .ntcAuth) rfl rfl rfl id
    · exact .ofFlagless (by simp) s r .validation
  | ntcData =>
    rw [afterRead]
    split_ifs
    · exact .ofFlagless (by simp) s r .ok
    · exact .ofFlagless (by simp) s r .validation
  | wlnAuth =>
    rw [afterRead]
    split_ifs with h
    · rw [← noteResponse_wlnAuth h, sendWlnData_eq]
      exact .ofData rfl rfl rfl fun _ => by rw [noteResponse_wlnAuth h]; rfl
    · have := ResponseEffect.ended (s := s) (leg := .wlnAuth) (r := r) .validation
      rwa [noteResponse_of_ne (eq_false_of_ne_true h)] at this
  | wlnData =>
    rw [afterRead]
    split_ifs
    · exact .ofFlagless (by simp) s r .ok
    · exact .ofFlagless (by simp) s r .validation

/-! ### Everything an event can do -/

/-- `EventEffect s e t`: the event `e`, delivered in state `s`, leads to `t`. -/
inductive EventEffect (s : State) : Event → State → Prop
  | read (a : PortAddr) : EventEffect s (.hostRead a) { s with readData := hostRead s a }
  /-- A write or an answer that has no effect (R61, R62, R65; log entry 6). -/
  | ignored (e : Event) : EventEffect s e s
  | dropped (a : PortAddr) (v : Word) (hb : busy s = true) (hp : busyProtected a = true) :
      EventEffect s (.hostWrite a v) (dropWrite s)
  | clearOvr (v : Word) (hv : v.getLsbD 5 = true) : EventEffect s (.hostWrite 0x004 v) { s with ovr := false }
  | devidLo (v : Word) (hb : busy s = false) : EventEffect s (.hostWrite 0x008 v) { s with devidLo := v }
  | devidHi (v : Word) (hb : busy s = false) : EventEffect s (.hostWrite 0x00C v) { s with devidHi := v }
  | time (v : Word) (hb : busy s = false) : EventEffect s (.hostWrite 0x010 v) { s with time := v }
  | lat (v : Word) (hb : busy s = false) : EventEffect s (.hostWrite 0x014 v) { s with lat := v }
  | lon (v : Word) (hb : busy s = false) : EventEffect s (.hostWrite 0x018 v) { s with lon := v }
  | rxLen (v : Word) (hb : busy s = false) (hv : v.toNat ≤ Config.rxCap) :
      EventEffect s (.hostWrite 0x040 v) { s with rxLen := v.setWidth Config.rxLenBits }
  | rxByte (a : PortAddr) (v : Word) (hb : busy s = false) (hw : inWindow rxBase Config.rxCap a.toNat = true) :
      EventEffect s (.hostWrite a v) { s with mem := s.mem.write a.toNat (v.setWidth 8) }
  | illegal (v : Word) (hb : busy s = false) : EventEffect s (.hostWrite 0x000 v) (illegalWord s)
  | command (v : Word) (i : Instr) {t : State} (hb : busy s = false) (hi : decode (v.setWidth 16) = .ok i)
      (hc : CommandEffect s i t) : EventEffect s (.hostWrite 0x000 v) t
  | written (leg : Leg) (f : List Byte) (hp : s.pos = .awaitWrite leg f) :
      EventEffect s (.writeAnswer (.ok f.length)) (issueRead leg (logFrame f s))
  /-- A failed or short write, or a failed read. -/
  | transportError (e : Event) (hb : busy s = true) : EventEffect s e (finish .transport s)
  | response (leg : Leg) (r : Response) {t : State} (hp : s.pos = .awaitRead leg)
      (hr : ResponseEffect (storeRx r.bytes s) leg r.bytes t) : EventEffect s (.readAnswer (.ok r)) t
  | powerReset : EventEffect s .powerReset (powerReset s)

theorem unlessBusy_cases (s t : State) :
    busy s = true ∧ unlessBusy s t = dropWrite s ∨ busy s = false ∧ unlessBusy s t = t := by
  cases h : busy s
  · exact .inr ⟨rfl, by simp [unlessBusy, h]⟩
  · exact .inl ⟨rfl, by simp [unlessBusy, h]⟩

/-- A protected write: dropped by a busy block, else as `h` says. -/
theorem EventEffect.ofUnlessBusy {s t : State} {a : PortAddr} {v : Word} (hp : busyProtected a = true)
    (h : busy s = false → EventEffect s (.hostWrite a v) t) : EventEffect s (.hostWrite a v) (unlessBusy s t) := by
  rcases unlessBusy_cases s t with ⟨hb, ht⟩ | ⟨hb, ht⟩
  · rw [ht]; exact .dropped a v hb hp
  · rw [ht]; exact h hb

theorem setRxLen_effect {s : State} (v : Word) (hb : busy s = false) :
    EventEffect s (.hostWrite 0x040 v) (setRxLen v s) := by
  unfold setRxLen
  split_ifs with hv
  · exact .rxLen v hb hv
  · exact .ignored _

theorem writeRegister_effect (a : PortAddr) (v : Word) (s : State) :
    EventEffect s (.hostWrite a v) (writeRegister a.toNat v s) := by
  have addr (b : PortAddr) (h : a.toNat = b.toNat) : a = b := BitVec.eq_of_toNat_eq h
  unfold writeRegister
  split
  · next h =>
    obtain rfl := addr 0x004 h
    split_ifs with hv
    · exact .clearOvr v hv
    · exact .ignored _
  · next h => obtain rfl := addr 0x008 h; exact .ofUnlessBusy rfl (.devidLo v)
  · next h => obtain rfl := addr 0x00C h; exact .ofUnlessBusy rfl (.devidHi v)
  · next h => obtain rfl := addr 0x010 h; exact .ofUnlessBusy rfl (.time v)
  · next h => obtain rfl := addr 0x014 h; exact .ofUnlessBusy rfl (.lat v)
  · next h => obtain rfl := addr 0x018 h; exact .ofUnlessBusy rfl (.lon v)
  · next h => obtain rfl := addr 0x040 h; exact .ofUnlessBusy rfl (setRxLen_effect v)
  · split_ifs with hw
    · exact .ofUnlessBusy (by simp [busyProtected, hw]) fun hb => .rxByte a v hb hw
    · exact .ignored _

theorem hostWrite_effect (a : PortAddr) (v : Word) (s : State) :
    ∃ t, hostWrite a v s = .next t ∧ EventEffect s (.hostWrite a v) t := by
  rcases hostWrite_cases a v s with h | ⟨rfl, hb, h⟩ | ⟨rfl, hb, h⟩ | ⟨-, -, h⟩
  · exact ⟨s, h, .ignored _⟩
  · exact ⟨_, h, .dropped 0x000 v hb rfl⟩
  · rcases runWord_cases (v.setWidth 16) s with ⟨i, hi, hw⟩ | ⟨e, -, hw⟩
    · obtain ⟨t, ht, hc⟩ := exec_effect i s
      exact ⟨t, h.trans (hw.trans ht), .command v i hb hi hc⟩
    · exact ⟨_, h.trans hw, .illegal v hb⟩
  · exact ⟨_, h, writeRegister_effect a v s⟩

theorem onWriteAnswer_effect (w : WriteAnswer) (s : State) :
    EventEffect s (.writeAnswer w) (onWriteAnswer w s) := by
  rcases onWriteAnswer_cases w s with ⟨leg, f, hp, ⟨rfl, h⟩ | ⟨-, h⟩⟩ | ⟨-, h⟩
  · rw [h]; exact .written leg f hp
  · rw [h]; exact .transportError _ (by simp [busy, hp])
  · rw [h]; exact .ignored _

theorem onReadAnswer_effect (a : ReadAnswer) (s : State) :
    EventEffect s (.readAnswer a) (onReadAnswer a s) := by
  rcases onReadAnswer_cases a s with ⟨leg, hp, ⟨r, rfl, h⟩ | ⟨-, h⟩⟩ | ⟨-, h⟩
  · rw [h]; exact .response leg r hp (afterRead_effect leg r.bytes _)
  · rw [h]; exact .transportError _ (by simp [busy, hp])
  · rw [h]; exact .ignored _

/-- Every event leads to a next state, which is one of the cases of `EventEffect`. -/
theorem deliver_effect (e : Event) (s : State) : ∃ t, deliver e s = .next t ∧ EventEffect s e t := by
  cases e with
  | hostRead a => exact ⟨_, rfl, .read a⟩
  | hostWrite a v => exact hostWrite_effect a v s
  | writeAnswer w => exact ⟨_, rfl, onWriteAnswer_effect w s⟩
  | readAnswer r => exact ⟨_, rfl, onReadAnswer_effect r s⟩
  | powerReset => exact ⟨_, rfl, .powerReset⟩

/-- Everything one step can do: nothing where no event is to come, else what its event does. -/
theorem step_effect {s t : State} (h : step s = .next t) :
    t = s ∨ ∃ e rest, s.events = e :: rest ∧ EventEffect { s with events := rest } e t := by
  rcases step_cases s with ⟨-, hs⟩ | ⟨e, rest, he, hs⟩
  · rw [hs] at h
    exact .inl (Host.Outcome.next.inj h).symm
  · obtain ⟨u, hu, heff⟩ := deliver_effect e { s with events := rest }
    rw [hs, hu] at h
    exact .inr ⟨e, rest, he, Host.Outcome.next.inj h ▸ heff⟩

end Sys2Proof.Machine
end

section
/-! SUPPORT. Every frame fits its buffer (R8, R35): the length of each frame, exact where it does not depend on the packet
and bounded where it does. -/

namespace Sys2Proof.Machine

/-! ### Text fields -/

theorem length_dec0_le {n w d : Nat} (h : n < 10 ^ (d + 1)) (hw : w ≤ d + 1) : (dec0 n w).length ≤ d + 1 := by
  have := length_dec_le h
  simp only [dec0, List.length_append, List.length_replicate]
  omega

theorem devid_lt (s : State) : devid s < 10 ^ 20 := by
  have hlo := s.devidLo.isLt
  have hhi := s.devidHi.isLt
  unfold devid
  omega

theorem length_dev15_le (s : State) : (dev15 s).length ≤ 20 := length_dec0_le (devid_lt s) (by omega)

theorem length_devdec_le (s : State) : (devdec s).length ≤ 20 := length_dec_le (devid_lt s)

/-- A crude bound on day and month, enough for the length of a line (the exact ranges are not needed here). -/
theorem civil_date_lt (t : Word) : (civil t).day < 10 ^ 6 ∧ (civil t).month < 10 ^ 4 := by
  simp only [civil]
  constructor
  · omega
  · split <;> omega

theorem civil_time_lt (t : Word) : (civil t).hour < 10 ^ 2 ∧ (civil t).minute < 10 ^ 2 ∧ (civil t).second < 10 ^ 2 := by
  simp only [civil]
  omega

theorem length_wlnDate_le (t : Word) : (wlnDate t).length ≤ 12 := by
  obtain ⟨hd, hm⟩ := civil_date_lt t
  have hd := length_dec0_le (w := 2) hd (by omega)
  have hm := length_dec0_le (w := 2) hm (by omega)
  have hy := length_dec0_le (n := (civil t).year % 100) (w := 2) (d := 1) (by omega) le_rfl
  simp only [wlnDate, List.length_append]
  omega

theorem length_wlnTime_le (t : Word) : (wlnTime t).length ≤ 6 := by
  obtain ⟨hh, hm, hs⟩ := civil_time_lt t
  have hh := length_dec0_le (w := 2) hh le_rfl
  have hm := length_dec0_le (w := 2) hm le_rfl
  have hs := length_dec0_le (w := 2) hs le_rfl
  simp only [wlnTime, List.length_append]
  omega

/-- A magnitude has at most 2^31 units, so at most 5 digits of hundredths of a degree before the point. -/
theorem length_wfield_le (v : Word) {w : Nat} (hw : w ≤ 10) : (wfield v w).length ≤ 10 := by
  have hv : v.toInt.natAbs ≤ 2 ^ 31 := by
    have := BitVec.toInt_lt (x := v)
    have := BitVec.le_toInt v
    omega
  have hint := length_dec_le (n := (v.toInt.natAbs + 5) / 10 / 10000) (w := 4) (by omega)
  have hfrac := length_dec0_le (n := (v.toInt.natAbs + 5) / 10 % 10000) (w := 4) (d := 3) (by omega) le_rfl
  simp only [wfield, List.length_append, List.length_replicate, length_ascii, List.length_cons, List.length_nil]
  omega

@[simp] theorem length_latLetter (v : Word) : (latLetter v).length = 1 := by
  unfold latLetter; split <;> rfl

@[simp] theorem length_lonLetter (v : Word) : (lonLetter v).length = 1 := by
  unfold lonLetter; split <;> rfl

/-! ### Frames -/

theorem length_ndtpAuthFrame (P : Params) (s : State) : (ndtpAuthFrame P s).length = 39 := by
  simp [ndtpAuthFrame, ndtpNpl, ndtpNph, ndtpAuthBody]

theorem length_ndtpNavFrame (P : Params) (s : State) : (ndtpNavFrame P s).length = 53 := by
  simp [ndtpNavFrame, ndtpNpl, ndtpNph, ndtpNavBody]

theorem length_egtsFrame (s : State) : (egtsFrame s).length = 48 := by
  simp [egtsFrame, egtsHdr, egtsHdr10, egtsRec, egtsSr, egtsPos]

@[simp] theorem length_ntcHdr (P : Params) (b : List Byte) : (ntcHdr P b).length = 16 := by
  simp [ntcHdr, ntcHdr15]

theorem length_ntcAuthFrame_le (P : Params) (s : State) : (ntcAuthFrame P s).length ≤ 40 := by
  have := length_dev15_le s
  simp only [ntcAuthFrame, ntcAuthBody, List.length_append, length_ntcHdr, Vector.length_toList]
  omega

theorem length_overlay {b x : List Byte} {off n : Nat} (hb : b.length = n) (h : off + x.length ≤ n) :
    (overlay b off x).length = n := by
  simp only [overlay, List.length_append, List.length_take, List.length_drop]
  omega

@[simp] theorem length_ntcTs (t : Word) : (ntcTs t).length = 6 := rfl

/-- R8: the four fields lie inside the body. -/
theorem ntcLayout_inside (L : NtcLayout) : L.ts1 + 6 ≤ 75 ∧ L.ts2 + 6 ≤ 75 ∧ L.lat + 4 ≤ 75 ∧ L.lon + 4 ≤ 75 := by
  have h := L.ok
  simp only [ntcLayoutOk, Bool.and_eq_true, decide_eq_true_eq] at h
  omega

theorem length_ntcDataBody (P : Params) (s : State) : (ntcDataBody P s).length = 75 := by
  obtain ⟨h1, h2, h3, h4⟩ := ntcLayout_inside P.ntcLayout
  have hb : (P.ntcDataTag.toList ++ le16 2 ++ be32 s.ntcRn ++ zeros 66).length = 75 := by simp
  exact length_overlay (length_overlay (length_overlay (length_overlay hb h1) h2) h3) h4

theorem length_ntcDataFrame (P : Params) (s : State) : (ntcDataFrame P s).length = 91 := by
  simp [ntcDataFrame, length_ntcDataBody]

theorem length_wlnAuthLine_le (s : State) : (wlnAuthLine s).length ≤ 28 := by
  have := length_devdec_le s
  simp only [wlnAuthLine, List.length_append, length_ascii, List.length_cons, List.length_nil]
  omega

theorem length_wlnDataLine_le (s : State) : (wlnDataLine s).length ≤ 91 := by
  have := length_wlnDate_le s.time
  have := length_wlnTime_le s.time
  have := length_wfield_le s.lat (w := 9) (by omega)
  have := length_wfield_le s.lon (w := 10) le_rfl
  simp only [wlnDataLine, List.length_append, length_ascii, length_latLetter, length_lonLetter, List.length_cons,
    List.length_nil]
  omega

/-- Every frame fits `FRAME`, `TX0` and `TX1`, in every state. -/
theorem length_legFrame_le (leg : Leg) (s : State) : (legFrame leg s).length ≤ Config.frameCap := by
  refine le_trans ?_ Config.le_frameCap
  cases leg with
  | ndtpAuth => exact (length_ndtpAuthFrame _ s).trans_le (by decide)
  | ndtpNav => exact (length_ndtpNavFrame _ s).trans_le (by decide)
  | egts => exact (length_egtsFrame s).trans_le (by decide)
  | ntcAuth => exact (length_ntcAuthFrame_le _ s).trans (by decide)
  | ntcData => exact (length_ntcDataFrame _ s).le
  | wlnAuth => exact (length_wlnAuthLine_le s).trans (by decide)
  | wlnData => exact length_wlnDataLine_le s

end Sys2Proof.Machine
end

section
/-! SUPPORT. The invariants of the buffers: the canonical form of the memory, and the zeros behind each length. -/

namespace Sys2Proof.Machine

/-! ### The windows of R22 -/

/-- An address of a buffer's window is a buffer address. -/
theorem isBufferAddr_of_window {a : Nat}
    (h : inWindow frameBase Config.frameCap a = true ∨ inWindow tx0Base Config.frameCap a = true ∨
      inWindow tx1Base Config.frameCap a = true ∨ inWindow rxBase Config.rxCap a = true) : isBufferAddr a = true := by
  rcases h with h | h | h | h <;> simp [isBufferAddr, h]

/-- The windows of `FRAME`, `TX0`, `TX1` and `RX` follow one another in the map. -/
theorem windows_apart :
    frameBase + 4 * Config.frameCap ≤ tx0Base ∧ tx0Base + 4 * Config.frameCap ≤ tx1Base ∧
      tx1Base + 4 * Config.frameCap ≤ rxBase := by
  have := Config.frameCap_le
  simp only [frameBase, tx0Base, tx1Base, rxBase]
  omega

/-! ### The canonical form (R22, log entry 12) -/

/-- The canonical form, of the memory alone. -/
def CanonicalMem (m : Memory) : Prop := Memory.wf m ∧ ∀ c ∈ m, isBufferAddr c.1 = true

theorem canonicalMem_nil : CanonicalMem [] := ⟨Memory.wf_nil, nofun⟩

/-- Replacing the contents of a buffer keeps the canonical form. -/
theorem CanonicalMem.fill {m : Memory} (h : CanonicalMem m) {base cap : Nat} (bs : List Byte) (h4 : base % 4 = 0)
    (hw : ∀ a, inWindow base cap a = true → isBufferAddr a = true) : CanonicalMem (m.fill base cap bs) := by
  refine ⟨Memory.wf_fill h.1 base cap bs, fun c hc => ?_⟩
  rcases mem_fill hc with ⟨hm, -⟩ | hc
  · exact h.2 c hm
  · obtain ⟨hlo, hhi, hmod, -⟩ := mem_cellsFrom hc
    have := List.length_take_le cap bs
    exact hw c.1 (decide_eq_true ⟨hlo, by omega, by omega⟩)

theorem CanonicalMem.fill_frame {m : Memory} (h : CanonicalMem m) (bs : List Byte) :
    CanonicalMem (m.fill frameBase Config.frameCap bs) :=
  h.fill bs rfl fun _ ha => isBufferAddr_of_window (.inl ha)

theorem CanonicalMem.fill_tx0 {m : Memory} (h : CanonicalMem m) (bs : List Byte) :
    CanonicalMem (m.fill tx0Base Config.frameCap bs) :=
  h.fill bs rfl fun _ ha => isBufferAddr_of_window (.inr (.inl ha))

theorem CanonicalMem.fill_tx1 {m : Memory} (h : CanonicalMem m) (bs : List Byte) :
    CanonicalMem (m.fill tx1Base Config.frameCap bs) :=
  h.fill bs rfl fun _ ha => isBufferAddr_of_window (.inr (.inr (.inl ha)))

theorem CanonicalMem.fill_rx {m : Memory} (h : CanonicalMem m) (bs : List Byte) :
    CanonicalMem (m.fill rxBase Config.rxCap bs) :=
  h.fill bs rfl fun _ ha => isBufferAddr_of_window (.inr (.inr (.inr ha)))

/-- A byte store to a buffer keeps the canonical form. -/
theorem CanonicalMem.write {m : Memory} (h : CanonicalMem m) {a : Nat} (b : Byte) (ha : isBufferAddr a = true) :
    CanonicalMem (m.write a b) := by
  refine ⟨Memory.wf_write h.1 a b, fun c hc => ?_⟩
  rcases Memory.mem_write hc with hm | ⟨rfl, -⟩
  · exact h.2 c hm
  · exact ha

theorem logFrame_canonical {s : State} (f : List Byte) (h : CanonicalMem s.mem) : CanonicalMem (logFrame f s).mem := by
  by_cases h0 : s.txCount = 0
  · rw [logFrame_first f h0]
    exact h.fill_tx0 f
  · rw [logFrame_second f h0]
    exact h.fill_tx1 f

theorem CommandEffect.canonical {s t : State} {i : Instr} (he : CommandEffect s i t) (h : CanonicalMem s.mem) :
    CanonicalMem t.mem := by
  cases he with
  | sessNew p => cases p <;> exact h
  | pack i leg => exact h.fill_frame _
  | send p leg hc hf => exact ((h.fill_tx0 _).fill_tx1 _).fill_frame _
  | _ => exact h

theorem ResponseEffect.canonical {s t : State} {leg : Leg} {r : List Byte} (he : ResponseEffect s leg r t)
    (h : CanonicalMem s.mem) : CanonicalMem t.mem := by
  cases he with
  | ended c => exact h
  | continued data => exact h.fill_frame _

theorem EventEffect.canonical {s t : State} {e : Event} (he : EventEffect s e t) (h : CanonicalMem s.mem) :
    CanonicalMem t.mem := by
  cases he with
  | rxByte a v hb hw => exact h.write _ (isBufferAddr_of_window (.inr (.inr (.inr hw))))
  | command v i hb hi hc => exact hc.canonical h
  | written leg f hp => exact logFrame_canonical f h
  | response leg r hp hr => exact hr.canonical (h.fill_rx _)
  | powerReset => exact canonicalMem_nil
  | _ => exact h

/-- Settles O57: each effect changes the memory by fills of the buffers or by a store to `RX`. -/
theorem stepKeepsCanonicalMemory : Obligations.StepKeepsCanonicalMemory := by
  intro s t hs h
  rcases step_effect h with rfl | ⟨e, rest, -, heff⟩
  · exact hs
  · exact heff.canonical hs

/-! ### Zeros behind the length (R35, R37) -/

/-- The buffer of `cap` bytes at `base` holds `n` bytes at most, and zeros from place `n` on. -/
def ZeroFrom (m : Memory) (base n : Nat) : Prop :=
  n ≤ Config.frameCap ∧ ∀ i, n ≤ i → i < Config.frameCap → m.read (base + 4 * i) = 0

theorem ZeroFrom.congr {m m' : Memory} {base n : Nat} (h : ZeroFrom m base n)
    (hm : ∀ a, base ≤ a → a < base + 4 * Config.frameCap → m'.read a = m.read a) : ZeroFrom m' base n :=
  ⟨h.1, fun i h1 h2 => (hm _ (by omega) (by omega)).trans (h.2 i h1 h2)⟩

/-- A buffer just filled is zero behind the new length. -/
theorem zeroFrom_fill (m : Memory) (base : Nat) {f : List Byte} (hf : f.length ≤ Config.frameCap) :
    ZeroFrom (m.fill base Config.frameCap f) base (BitVec.ofNat 8 f.length).toNat := by
  rw [toNat_frameLen hf]
  refine ⟨hf, fun i h1 h2 => ?_⟩
  rw [Memory.read_fill_inside m f h2]
  exact List.getD_eq_default f 0 h1

/-- Filling another buffer changes nothing. -/
theorem ZeroFrom.fill_other {m : Memory} {base n base' cap' : Nat} (h : ZeroFrom m base n) (f : List Byte)
    (hd : base + 4 * Config.frameCap ≤ base' ∨ base' + 4 * cap' ≤ base) : ZeroFrom (m.fill base' cap' f) base n :=
  h.congr fun a h1 h2 => Memory.read_fill_outside m f (by omega)

/-- The three buffers that the block fills with frames. -/
structure FramesFilled (s : State) : Prop where
  frame : ZeroFrom s.mem frameBase s.frameLen.toNat
  tx0 : ZeroFrom s.mem tx0Base s.tx0Len.toNat
  tx1 : ZeroFrom s.mem tx1Base s.tx1Len.toNat
  rxLen : s.rxLen.toNat ≤ Config.rxCap

/-- A frame being written fits its log. -/
def WritingFits (p : SendPos) : Prop := ∀ leg f, p = .awaitWrite leg f → f.length ≤ Config.frameCap

theorem buffersFilled_iff (s : State) : BuffersFilled s ↔ FramesFilled s ∧ WritingFits s.pos := by
  constructor
  · rintro ⟨hf, h0, h1, hr, zf, z0, z1, hw⟩
    exact ⟨⟨⟨hf, zf⟩, ⟨h0, z0⟩, ⟨h1, z1⟩, hr⟩, hw⟩
  · rintro ⟨⟨⟨hf, zf⟩, ⟨h0, z0⟩, ⟨h1, z1⟩, hr⟩, hw⟩
    exact ⟨hf, h0, h1, hr, zf, z0, z1, hw⟩

theorem FramesFilled.fill_frame {s : State} (h : FramesFilled s) {f : List Byte} (hf : f.length ≤ Config.frameCap) :
    FramesFilled (setFrame f s) := by
  have hw := windows_apart
  exact ⟨zeroFrom_fill s.mem frameBase hf, h.tx0.fill_other f (by omega), h.tx1.fill_other f (by omega), h.rxLen⟩

theorem FramesFilled.storeRx {s : State} (h : FramesFilled s) (r : Response) : FramesFilled (storeRx r.bytes s) := by
  have hw := windows_apart
  exact ⟨h.frame.fill_other _ (by omega), h.tx0.fill_other _ (by omega), h.tx1.fill_other _ (by omega),
    (toNat_rxLen r.fits).trans_le r.fits⟩

theorem FramesFilled.prologue {s : State} (h : FramesFilled s) : FramesFilled (prologue s) := by
  have hw := windows_apart
  have hz : ([] : List Byte).length ≤ Config.frameCap := Nat.zero_le _
  exact ⟨(h.frame.fill_other [] (by omega)).fill_other [] (by omega),
    (zeroFrom_fill s.mem tx0Base hz).fill_other [] (by omega), zeroFrom_fill _ tx1Base hz, h.rxLen⟩

theorem FramesFilled.logFrame {s : State} (h : FramesFilled s) {f : List Byte} (hf : f.length ≤ Config.frameCap) :
    FramesFilled (logFrame f s) := by
  have hw := windows_apart
  by_cases h0 : s.txCount = 0
  · rw [logFrame_first f h0]
    exact ⟨h.frame.fill_other f (by omega), zeroFrom_fill s.mem tx0Base hf, h.tx1.fill_other f (by omega), h.rxLen⟩
  · rw [logFrame_second f h0]
    exact ⟨h.frame.fill_other f (by omega), h.tx0.fill_other f (by omega), zeroFrom_fill s.mem tx1Base hf, h.rxLen⟩

theorem FramesFilled.write_rx {s : State} (h : FramesFilled s) {a : Nat} (b : Byte)
    (ha : inWindow rxBase Config.rxCap a = true) : FramesFilled { s with mem := s.mem.write a b } := by
  have hw := windows_apart
  obtain ⟨hlo, -, -⟩ := of_decide_eq_true ha
  exact ⟨h.frame.congr fun a' _ _ => Memory.read_write_other s.mem b (by omega),
    h.tx0.congr fun a' _ _ => Memory.read_write_other s.mem b (by omega),
    h.tx1.congr fun a' _ _ => Memory.read_write_other s.mem b (by omega), h.rxLen⟩

theorem framesFilled_powerReset (s : State) : FramesFilled (powerReset s) :=
  ⟨⟨Nat.zero_le _, fun _ _ _ => rfl⟩, ⟨Nat.zero_le _, fun _ _ _ => rfl⟩, ⟨Nat.zero_le _, fun _ _ _ => rfl⟩,
    Nat.zero_le _⟩

theorem FramesFilled.startLeg {s : State} (h : FramesFilled s) (leg : Leg) : FramesFilled (startLeg leg s) := by
  obtain ⟨hf, h0, h1, hr⟩ := h.fill_frame (length_legFrame_le leg s)
  exact ⟨hf, h0, h1, hr⟩

theorem writingFits_startLeg (leg : Leg) (s : State) : WritingFits (startLeg leg s).pos := by
  rintro leg' f hp
  obtain ⟨-, rfl⟩ := SendPos.awaitWrite.inj hp
  exact length_legFrame_le leg s

theorem writingFits_finish (c : Code) (s : State) : WritingFits (finish c s).pos := nofun

theorem CommandEffect.filled {s t : State} {i : Instr} (he : CommandEffect s i t) (h : FramesFilled s) :
    FramesFilled t ∧ WritingFits t.pos := by
  cases he with
  | sessNew p => cases p <;> exact ⟨⟨h.frame, h.tx0, h.tx1, h.rxLen⟩, writingFits_finish _ _⟩
  | pack i leg =>
    obtain ⟨hf, h0, h1, hr⟩ := h.startLeg leg
    exact ⟨⟨hf, h0, h1, hr⟩, writingFits_finish _ _⟩
  | send p leg hc hf => exact ⟨h.prologue.startLeg leg, writingFits_startLeg leg _⟩
  | _ => exact ⟨⟨h.frame, h.tx0, h.tx1, h.rxLen⟩, writingFits_finish _ _⟩

theorem ResponseEffect.filled {s t : State} {leg : Leg} {r : List Byte} (he : ResponseEffect s leg r t)
    (h : FramesFilled s) : FramesFilled t ∧ WritingFits t.pos := by
  have hn : FramesFilled (noteResponse leg r s) := ⟨h.frame, h.tx0, h.tx1, h.rxLen⟩
  cases he with
  | ended c => exact ⟨⟨h.frame, h.tx0, h.tx1, h.rxLen⟩, writingFits_finish _ _⟩
  | continued data => exact ⟨hn.startLeg data, writingFits_startLeg data _⟩

theorem EventEffect.filled {s t : State} {e : Event} (he : EventEffect s e t) (h : FramesFilled s)
    (hw : WritingFits s.pos) : FramesFilled t ∧ WritingFits t.pos := by
  cases he with
  | rxLen v hb hv => exact ⟨⟨h.frame, h.tx0, h.tx1, (toNat_setWidth_rxLen hv).trans_le hv⟩, hw⟩
  | rxByte a v hb ha => exact ⟨h.write_rx _ ha, hw⟩
  | illegal v hb => exact ⟨⟨h.frame, h.tx0, h.tx1, h.rxLen⟩, writingFits_finish _ _⟩
  | transportError e hb => exact ⟨⟨h.frame, h.tx0, h.tx1, h.rxLen⟩, writingFits_finish _ _⟩
  | command v i hb hi hc => exact hc.filled h
  | written leg f hp =>
    obtain ⟨hf, h0, h1, hr⟩ := h.logFrame (hw leg f hp)
    exact ⟨⟨hf, h0, h1, hr⟩, nofun⟩
  | response leg r hp hr => exact hr.filled (h.storeRx r)
  | powerReset => exact ⟨framesFilled_powerReset s, nofun⟩
  | _ => exact ⟨⟨h.frame, h.tx0, h.tx1, h.rxLen⟩, hw⟩

/-- Settles O58: each effect fills a buffer together with its length, and every frame fits. -/
theorem stepKeepsBuffersFilled : Obligations.StepKeepsBuffersFilled := by
  intro s t hs h
  obtain ⟨hf, hw⟩ := (buffersFilled_iff s).mp hs
  rcases step_effect h with rfl | ⟨e, rest, -, heff⟩
  · exact hs
  · exact (buffersFilled_iff t).mpr (heff.filled ⟨hf.frame, hf.tx0, hf.tx1, hf.rxLen⟩ hw)

end Sys2Proof.Machine
end

section
/-! SUPPORT. The position inside a `SEND` agrees with the packet, `FRAME`, the session flags and the log (R26, R35, R260,
R267). -/

namespace Sys2Proof.Machine

theorem sendConsistent_idle {s : State} (hp : s.pos = .idle) : SendConsistent s ↔ s.txCount.toNat ≤ 2 := by
  simp only [SendConsistent, hp]

theorem sendConsistent_awaitWrite {s : State} {leg : Leg} {f : List Byte} (hp : s.pos = .awaitWrite leg f) :
    SendConsistent s ↔ coordsOk s = true ∧ f = s.mem.bytes frameBase s.frameLen.toNat ∧ legFlags s leg ∧
      (if isAuthLeg leg then s.txCount.toNat = 0 else s.txCount.toNat ≤ 1) := by
  simp only [SendConsistent, hp]

theorem sendConsistent_awaitRead {s : State} {leg : Leg} (hp : s.pos = .awaitRead leg) :
    SendConsistent s ↔ coordsOk s = true ∧ legFlags s leg ∧
      (if isAuthLeg leg then s.txCount.toNat = 1 else s.txCount.toNat = 1 ∨ s.txCount.toNat = 2) := by
  simp only [SendConsistent, hp]

/-- At every position at most two frames are logged. -/
theorem SendConsistent.txCount_le {s : State} (h : SendConsistent s) : s.txCount.toNat ≤ 2 := by
  rcases hp : s.pos with _ | ⟨leg, f⟩ | leg
  · exact (sendConsistent_idle hp).mp h
  · obtain ⟨-, -, -, ht⟩ := (sendConsistent_awaitWrite hp).mp h
    split at ht <;> omega
  · obtain ⟨-, -, ht⟩ := (sendConsistent_awaitRead hp).mp h
    split at ht <;> omega

/-- On an idle block only the log counts. -/
theorem consistent_of_idle {s : State} (hp : s.pos = .idle) (h : s.txCount.toNat ≤ 2) : SendConsistent s :=
  (sendConsistent_idle hp).mpr h

theorem finish_consistent (c : Code) {s : State} (h : s.txCount.toNat ≤ 2) : SendConsistent (finish c s) :=
  consistent_of_idle (finish_pos c s) h

theorem legFlags_congr {s t : State} (hn : t.ndtpAuth = s.ndtpAuth) (ht : t.ntcAuth = s.ntcAuth)
    (hw : t.wlnAuth = s.wlnAuth) (leg : Leg) : legFlags t leg ↔ legFlags s leg := by
  cases leg <;> simp [legFlags, hn, ht, hw]

/-- The invariant reads the position, the packet's coordinates, `FRAME`, the flags and the log only. -/
theorem SendConsistent.congr {s t : State} (h : SendConsistent s) (hp : t.pos = s.pos) (hlat : t.lat = s.lat)
    (hlon : t.lon = s.lon) (hmem : t.mem = s.mem) (hlen : t.frameLen = s.frameLen) (hcount : t.txCount = s.txCount)
    (hn : t.ndtpAuth = s.ndtpAuth) (ht : t.ntcAuth = s.ntcAuth) (hw : t.wlnAuth = s.wlnAuth) : SendConsistent t := by
  simpa only [SendConsistent, hp, coordsOk_congr hlat hlon, hmem, hlen, hcount, legFlags_congr hn ht hw] using h

/-! ### Starting the transfer of a frame -/

theorem legFlags_markHandshake {leg : Leg} {s : State} (h : legFlags s leg) : legFlags (markHandshake leg s) leg := by
  cases leg with
  | ndtpAuth | ntcAuth => rfl
  | _ => exact h

/-- A frame in transfer is consistent where the packet is in range, the flags fit and the log has room for it. -/
theorem startLeg_consistent {leg : Leg} {s : State} (hc : coordsOk s = true) (hf : legFlags (markHandshake leg s) leg)
    (ht : if isAuthLeg leg then s.txCount.toNat = 0 else s.txCount.toNat ≤ 1) : SendConsistent (startLeg leg s) := by
  refine (sendConsistent_awaitWrite rfl).mpr ⟨hc, ?_, (legFlags_congr rfl rfl rfl leg).mpr hf, ht⟩
  exact (bytes_setFrame (length_legFrame_le leg s) s).symm

/-! ### The step -/

theorem CommandEffect.consistent {s t : State} {i : Instr} (he : CommandEffect s i t) (h : s.txCount.toNat ≤ 2) :
    SendConsistent t := by
  cases he with
  | sessNew p => cases p <;> exact finish_consistent _ h
  | send p leg hc hf =>
    refine startLeg_consistent hc ((legFlags_congr rfl rfl rfl leg).mpr hf) ?_
    split <;> simp
  | _ => exact finish_consistent _ h

/-- The frame is logged: the log then has one entry more. -/
theorem written_consistent {s : State} {leg : Leg} {f : List Byte} (hp : s.pos = .awaitWrite leg f)
    (h : SendConsistent s) : SendConsistent (issueRead leg (logFrame f s)) := by
  obtain ⟨hc, -, hf, ht⟩ := (sendConsistent_awaitWrite hp).mp h
  refine (sendConsistent_awaitRead rfl).mpr ⟨?_, ?_, ?_⟩
  · rwa [coordsOk_congr (s := s) (by simp) (by simp)]
  · exact (legFlags_congr (by simp) (by simp) (by simp) leg).mpr hf
  · simp only [issueRead_txCount, logFrame_txCount, BitVec.toNat_add]
    split_ifs at ht ⊢ <;> simp <;> omega

theorem ResponseEffect.consistent {s t : State} {leg : Leg} {r : List Byte} (he : ResponseEffect s leg r t)
    (hp : s.pos = .awaitRead leg) (h : SendConsistent s) : SendConsistent t := by
  obtain ⟨-, hf, ht⟩ := (sendConsistent_awaitRead hp).mp h
  cases he with
  | ended c => exact finish_consistent c h.txCount_le
  | continued data ha hd hc hdata =>
    refine startLeg_consistent hc (legFlags_markHandshake (hdata hf)) ?_
    rw [if_pos ha] at ht
    rw [hd]
    exact ht.le

theorem EventEffect.consistent {s t : State} {e : Event} (he : EventEffect s e t) (h : SendConsistent s) :
    SendConsistent t := by
  have hidle (hb : busy s = false) : s.pos = .idle := (busy_eq_false_iff s).mp hb
  cases he with
  | lat v hb => exact consistent_of_idle (hidle hb) h.txCount_le
  | lon v hb => exact consistent_of_idle (hidle hb) h.txCount_le
  | rxByte a v hb hw => exact consistent_of_idle (hidle hb) h.txCount_le
  | illegal v hb => exact finish_consistent _ h.txCount_le
  | transportError e hb => exact finish_consistent _ h.txCount_le
  | command v i hb hi hc => exact hc.consistent h.txCount_le
  | written leg f hp => exact written_consistent hp h
  | response leg r hp hr =>
    exact hr.consistent hp ((sendConsistent_awaitRead (s := storeRx r.bytes s) hp).mpr
      ((sendConsistent_awaitRead hp).mp h))
  | powerReset => exact consistent_of_idle rfl (Nat.zero_le _)
  | _ => exact h.congr rfl rfl rfl rfl rfl rfl rfl rfl rfl

/-- Settles O59: each effect keeps the position consistent, or ends at an idle block. -/
theorem stepKeepsSendConsistent : Obligations.StepKeepsSendConsistent := by
  intro s t hs h
  rcases step_effect h with rfl | ⟨e, rest, -, heff⟩
  · exact hs
  · exact heff.consistent (hs.congr rfl rfl rfl rfl rfl rfl rfl rfl rfl)

end Sys2Proof.Machine
end

section
/-! SUPPORT. The rules over every step: which acts change an accumulator, a packet register, a session register and a
status flag (10_state.md §3 to §7). Each is a case split over `EventEffect`. -/

namespace Sys2Proof.Machine

/-! ### Accumulators (R27) -/

/-- No accumulator differs between the two states. -/
def SameAccumulators (s t : State) : Prop :=
  t.crc8Acc = s.crc8Acc ∧ t.crc16cAcc = s.crc16cAcc ∧ t.crc16mAcc = s.crc16mAcc ∧ t.xorAcc = s.xorAcc

/-- An accumulator that differs is that of the command `i`. -/
def AccumulatorsOf (i : Instr) (s t : State) : Prop :=
  (t.crc8Acc ≠ s.crc8Acc → i = .crc8Init ∨ ∃ b, i = .crc8Upd b) ∧
  (t.crc16cAcc ≠ s.crc16cAcc → i = .crc16cInit ∨ ∃ b, i = .crc16cUpd b) ∧
  (t.crc16mAcc ≠ s.crc16mAcc → i = .crc16mInit ∨ ∃ b, i = .crc16mUpd b) ∧
  (t.xorAcc ≠ s.xorAcc → i = .xorInit ∨ ∃ b, i = .xorUpd b)

theorem SameAccumulators.accumulatorsOf {s t : State} (h : SameAccumulators s t) (i : Instr) : AccumulatorsOf i s t := by
  obtain ⟨h8, hc, hm, hx⟩ := h
  exact ⟨absurd h8, absurd hc, absurd hm, absurd hx⟩

theorem newSession_accumulators (p : Protocol) (s : State) : SameAccumulators s (newSession p s) := by
  cases p <;> exact ⟨rfl, rfl, rfl, rfl⟩

theorem CommandEffect.accumulators {s t : State} {i : Instr} (h : CommandEffect s i t) : AccumulatorsOf i s t := by
  cases h with
  | crc8 hi x => exact ⟨fun _ => hi, absurd rfl, absurd rfl, absurd rfl⟩
  | crc16c hi x => exact ⟨absurd rfl, fun _ => hi, absurd rfl, absurd rfl⟩
  | crc16m hi x => exact ⟨absurd rfl, absurd rfl, fun _ => hi, absurd rfl⟩
  | xor hi x => exact ⟨absurd rfl, absurd rfl, absurd rfl, fun _ => hi⟩
  | sessNew p => exact SameAccumulators.accumulatorsOf (newSession_accumulators p s) _
  | _ => exact SameAccumulators.accumulatorsOf ⟨rfl, rfl, rfl, rfl⟩ _

theorem ResponseEffect.accumulators {s t : State} {leg : Leg} {r : List Byte} (h : ResponseEffect s leg r t) :
    SameAccumulators s t := by
  cases h with
  | ended | continued => exact ⟨rfl, rfl, rfl, rfl⟩

/-- Settles O22: of all effects of an event only a generator's own command touches its accumulator. -/
theorem accumulatorsChangeByTheirCommandsOnly : Obligations.AccumulatorsChangeByTheirCommandsOnly := by
  intro s t h
  rcases step_effect h with rfl | ⟨e, rest, he, heff⟩
  · exact .inr (.inl ⟨rfl, rfl, rfl, rfl⟩)
  · cases heff with
    | powerReset => exact .inl ⟨rest, he⟩
    | command v i hb hi hc => exact .inr (.inr ⟨v, rest, i, he, hb, hi, hc.accumulators⟩)
    | written leg f hp => exact .inr (.inl (by simp))
    | response leg r hp hr => exact .inr (.inl hr.accumulators)
    | _ => exact .inr (.inl ⟨rfl, rfl, rfl, rfl⟩)

/-! ### Packet registers (R26) -/

/-- No packet register differs between the two states. -/
def SamePacket (s t : State) : Prop :=
  t.devidLo = s.devidLo ∧ t.devidHi = s.devidHi ∧ t.time = s.time ∧ t.lat = s.lat ∧ t.lon = s.lon

theorem CommandEffect.packet {s t : State} {i : Instr} (h : CommandEffect s i t) : SamePacket s t := by
  cases h with
  | sessNew p => cases p <;> exact ⟨rfl, rfl, rfl, rfl, rfl⟩
  | _ => exact ⟨rfl, rfl, rfl, rfl, rfl⟩

theorem ResponseEffect.packet {s t : State} {leg : Leg} {r : List Byte} (h : ResponseEffect s leg r t) :
    SamePacket s t := by
  cases h with
  | ended | continued => exact ⟨rfl, rfl, rfl, rfl, rfl⟩

/-- Settles O23: only a host write to a packet register of an idle block changes it. -/
theorem packetRegistersChangeByTheHostOnly : Obligations.PacketRegistersChangeByTheHostOnly := by
  intro s t h
  rcases step_effect h with rfl | ⟨e, rest, he, heff⟩
  · exact .inr (.inl ⟨rfl, rfl, rfl, rfl, rfl⟩)
  · cases heff with
    | powerReset => exact .inl ⟨rest, he⟩
    | devidLo v hb => exact .inr (.inr ⟨0x008, v, rest, he, hb, .inl ⟨rfl, rfl⟩⟩)
    | devidHi v hb => exact .inr (.inr ⟨0x00C, v, rest, he, hb, .inr (.inl ⟨rfl, rfl⟩)⟩)
    | time v hb => exact .inr (.inr ⟨0x010, v, rest, he, hb, .inr (.inr (.inl ⟨rfl, rfl⟩))⟩)
    | lat v hb => exact .inr (.inr ⟨0x014, v, rest, he, hb, .inr (.inr (.inr (.inl ⟨rfl, rfl⟩)))⟩)
    | lon v hb => exact .inr (.inr ⟨0x018, v, rest, he, hb, .inr (.inr (.inr (.inr ⟨rfl, rfl⟩)))⟩)
    | command v i hb hi hc => exact .inr (.inl hc.packet)
    | written leg f hp => exact .inr (.inl (by simp))
    | response leg r hp hr => exact .inr (.inl hr.packet)
    | _ => exact .inr (.inl ⟨rfl, rfl, rfl, rfl, rfl⟩)

/-! ### Authentication flags (R29, R30, R32, R33) -/

/-- No command sets `WLN_AUTH` (R266). -/
theorem CommandEffect.wlnAuth {s t : State} {i : Instr} (h : CommandEffect s i t) (ht : t.wlnAuth = true) :
    s.wlnAuth = true := by
  cases h with
  | sessNew p =>
    cases p with
    | wln => exact nomatch ht
    | _ => exact ht
  | _ => exact ht

/-- A response that sets `WLN_AUTH` is the acknowledgement of the auth line. -/
theorem ResponseEffect.wlnAuth {s t : State} {leg : Leg} {r : List Byte} (h : ResponseEffect s leg r t)
    (hs : s.wlnAuth = false) (ht : t.wlnAuth = true) : leg = .wlnAuth ∧ r = Config.wlnAuthOk := by
  have hn : (noteResponse leg r s).wlnAuth = true := by
    cases h with
    | ended | continued => exact ht
  obtain ⟨rfl, hr⟩ : leg = .wlnAuth ∧ ackEq r (legTemplate Config.params leg) = true := by
    simpa [noteResponse, hs] using hn
  exact ⟨rfl, of_decide_eq_true hr⟩

/-- Settles O24: a response is the only event that can set `WLN_AUTH`. -/
theorem wialonAuthenticatesByMatchOnly : Obligations.WialonAuthenticatesByMatchOnly := by
  intro s t h hs ht
  have hne {a : Bool} (ha : a = false) : a ≠ true := by simp [ha]
  rcases step_effect h with rfl | ⟨e, rest, he, heff⟩
  · exact absurd ht (hne hs)
  · cases heff with
    | response leg r hp hr =>
      obtain ⟨rfl, hbytes⟩ := hr.wlnAuth hs ht
      exact ⟨r, rest, he, hp, hbytes⟩
    | command v i hb hi hc => exact absurd (hc.wlnAuth ht) (hne hs)
    | written leg f hp => exact absurd (by simpa using ht) (hne hs)
    | powerReset => exact nomatch ht
    | _ => exact absurd ht (hne hs)

/-! ### Session registers (R29 to R33) -/

/-- Every authentication flag that is 1 in `s` is 1 in `t`. -/
def KeepsAuth (s t : State) : Prop :=
  (s.ndtpAuth = true → t.ndtpAuth = true) ∧ (s.ntcAuth = true → t.ntcAuth = true) ∧
    (s.wlnAuth = true → t.wlnAuth = true)

/-- Each session counter stays or moves up by one, those of EGTS together. -/
def CountersAdvance (s t : State) : Prop :=
  (t.ndtpPid = s.ndtpPid ∨ t.ndtpPid = s.ndtpPid + 1) ∧
    (t.egtsPid = s.egtsPid ∧ t.egtsRn = s.egtsRn ∨ t.egtsPid = s.egtsPid + 1 ∧ t.egtsRn = s.egtsRn + 1) ∧
    (t.ntcRn = s.ntcRn ∨ t.ntcRn = s.ntcRn + 1)

/-- What every act but `SESS.NEW` and a reset does to the session registers. -/
def SessionGoesOn (s t : State) : Prop := KeepsAuth s t ∧ CountersAdvance s t

theorem SessionGoesOn.same (s : State) : SessionGoesOn s s :=
  ⟨⟨id, id, id⟩, .inl rfl, .inl ⟨rfl, rfl⟩, .inl rfl⟩

theorem countFrame_advances (leg : Leg) (s : State) : CountersAdvance s (countFrame leg s) := by
  cases leg <;> simp [CountersAdvance]

theorem startLeg_session (leg : Leg) (s : State) : SessionGoesOn s (startLeg leg s) :=
  ⟨⟨fun h => (Bool.or_eq_true _ _).mpr (.inr h), fun h => (Bool.or_eq_true _ _).mpr (.inr h), id⟩,
    countFrame_advances leg s⟩

theorem noteResponse_keepsAuth (leg : Leg) (r : List Byte) (s : State) : KeepsAuth s (noteResponse leg r s) :=
  ⟨id, id, fun h => (Bool.or_eq_true _ _).mpr (.inr h)⟩

theorem KeepsAuth.trans {s t u : State} (h : KeepsAuth s t) (h' : KeepsAuth t u) : KeepsAuth s u :=
  ⟨h'.1 ∘ h.1, h'.2.1 ∘ h.2.1, h'.2.2 ∘ h.2.2⟩

theorem CommandEffect.session {s t : State} {i : Instr} (h : CommandEffect s i t) :
    SessionGoesOn s t ∨ ∃ p, i = .sessNew p ∧ t = finish .ok (newSession p s) := by
  cases h with
  | sessNew p => exact .inr ⟨p, rfl, rfl⟩
  | pack i leg => exact .inl ⟨⟨id, id, id⟩, countFrame_advances leg s⟩
  | send p leg hc hf => exact .inl (startLeg_session leg (prologue s))
  | _ => exact .inl (SessionGoesOn.same s)

theorem ResponseEffect.session {s t : State} {leg : Leg} {r : List Byte} (h : ResponseEffect s leg r t) :
    SessionGoesOn s t := by
  have hn := noteResponse_keepsAuth leg r s
  cases h with
  | ended c => exact ⟨hn, (SessionGoesOn.same s).2⟩
  | continued data =>
    obtain ⟨hk, hadv⟩ := startLeg_session data (noteResponse leg r s)
    exact ⟨hn.trans hk, hadv⟩

theorem logFrame_session (f : List Byte) (s : State) : SessionGoesOn s (logFrame f s) := by
  simp [SessionGoesOn, KeepsAuth, CountersAdvance]

/-- What one step does to the session registers: `SESS.NEW` alone constructs them anew. -/
theorem step_session {s t : State} (h : step s = .next t) :
    (∃ rest, s.events = .powerReset :: rest) ∨ SessionGoesOn s t ∨
    ∃ v rest p, s.events = .hostWrite 0x000 v :: rest ∧ busy s = false ∧ decode (v.setWidth 16) = .ok (.sessNew p) ∧
      t = finish .ok (newSession p { s with events := rest }) := by
  rcases step_effect h with rfl | ⟨e, rest, he, heff⟩
  · exact .inr (.inl (SessionGoesOn.same t))
  · cases heff with
    | powerReset => exact .inl ⟨rest, he⟩
    | command v i hb hi hc =>
      rcases hc.session with hs | ⟨p, rfl, ht⟩
      · exact .inr (.inl hs)
      · exact .inr (.inr ⟨v, rest, p, he, hb, hi, ht⟩)
    | written leg f hp => exact .inr (.inl (logFrame_session f { s with events := rest }))
    | response leg r hp hr => exact .inr (.inl hr.session)
    | _ => exact .inr (.inl (SessionGoesOn.same s))

/-- Settles O25: `SESS.NEW p` clears the flag of `p` alone, and every other act keeps the flags. -/
theorem authFlagsClearedByNewSessionOnly : Obligations.AuthFlagsClearedByNewSessionOnly := by
  intro s t h
  rcases step_session h with hreset | ⟨⟨hndtp, hntc, hwln⟩, -⟩ | ⟨v, rest, p, he, hb, hi, rfl⟩
  · exact .inl hreset
  · exact .inr ⟨none, nofun, by simp_all, by simp_all, by simp_all⟩
  · refine .inr ⟨some p, fun _ hq => ⟨v, rest, he, hb, Option.some.inj hq ▸ hi⟩, ?_⟩
    cases p <;> simp +contextual [newSession]

/-- Settles O26: `SESS.NEW p` zeroes the counters of `p` alone, and every other act moves a counter by one at most. -/
theorem countersMoveByOne : Obligations.CountersMoveByOne := by
  intro s t h
  rcases step_session h with hreset | ⟨-, hndtp, hegts, hntc⟩ | ⟨v, rest, p, he, hb, hi, rfl⟩
  · exact .inl hreset
  · exact .inr ⟨none, nofun, hndtp.imp_right .inl, hegts.imp_right .inl, hntc.imp_right .inl⟩
  · refine .inr ⟨some p, fun _ hq => ⟨v, rest, he, hb, Option.some.inj hq ▸ hi⟩, ?_⟩
    cases p <;> simp [newSession]

/-! ### Status flags (R38) -/

theorem CommandEffect.ackMatch {s t : State} {i : Instr} (h : CommandEffect s i t) (hne : t.ackMatch ≠ s.ackMatch) :
    ∃ k, i = .ackChk k := by
  cases h with
  | ackChk k m => exact ⟨k, rfl⟩
  | sessNew p => cases p <;> exact absurd rfl hne
  | _ => exact absurd rfl hne

theorem CommandEffect.ovr {s t : State} {i : Instr} (h : CommandEffect s i t) : t.ovr = s.ovr := by
  cases h with
  | sessNew p => cases p <;> rfl
  | _ => rfl

/-- Among the commands only a `SEND` touches the diagnostic flags, and it clears both. -/
theorem CommandEffect.diag {s t : State} {i : Instr} (h : CommandEffect s i t) :
    (t.diagAuth = s.diagAuth ∧ t.diagNav = s.diagNav) ∨
      ∃ p, i = .send p ∧ t.diagAuth = false ∧ t.diagNav = false := by
  cases h with
  | send p leg hc hf => exact .inr ⟨p, rfl, rfl, rfl⟩
  | sessNew p => cases p <;> exact .inl ⟨rfl, rfl⟩
  | _ => exact .inl ⟨rfl, rfl⟩

/-- What a step other than a reset may do to the status flags: the clauses of R38 for the step's event `e`. -/
structure StatusRules (s : State) (e : Event) (t : State) : Prop where
  ackMatch : t.ackMatch ≠ s.ackMatch →
    ∃ v k, e = .hostWrite 0x000 v ∧ busy s = false ∧ decode (v.setWidth 16) = .ok (.ackChk k)
  ovrSet : s.ovr = false → t.ovr = true → ∃ a v, e = .hostWrite a v ∧ busy s = true ∧ busyProtected a = true
  ovrCleared : s.ovr = true → t.ovr = false → ∃ v, e = .hostWrite 0x004 v ∧ v.getLsbD 5 = true
  diagAuthSet : s.diagAuth = false → t.diagAuth = true → s.pos = .awaitRead .ndtpAuth
  diagNavSet : s.diagNav = false → t.diagNav = true → s.pos = .awaitRead .ndtpNav
  diagCleared : (s.diagAuth = true ∧ t.diagAuth = false) ∨ (s.diagNav = true ∧ t.diagNav = false) →
    ∃ v p, e = .hostWrite 0x000 v ∧ busy s = false ∧ decode (v.setWidth 16) = .ok (.send p)
  code : t.code ≠ s.code → (∃ v, e = .hostWrite 0x000 v ∧ busy s = false) ∨ busy s = true ∧ busy t = false

/-- No flag of `STATUS` but `CODE` and `BUSY` differs between the two states. -/
def SameFlags (s t : State) : Prop :=
  t.ackMatch = s.ackMatch ∧ t.ovr = s.ovr ∧ t.diagAuth = s.diagAuth ∧ t.diagNav = s.diagNav

theorem SameFlags.statusRules {s t : State} {e : Event} (h : SameFlags s t)
    (hcode : t.code ≠ s.code → (∃ v, e = .hostWrite 0x000 v ∧ busy s = false) ∨ busy s = true ∧ busy t = false) :
    StatusRules s e t := by
  obtain ⟨hm, ho, ha, hn⟩ := h
  exact ⟨absurd hm, by simp_all, by simp_all, by simp_all, by simp_all, by simp_all, hcode⟩

/-- A command keeps the rules of the status flags. -/
theorem CommandEffect.statusRules {s t : State} {v : Word} {i : Instr} (h : CommandEffect s i t) (hb : busy s = false)
    (hi : decode (v.setWidth 16) = .ok i) : StatusRules s (.hostWrite 0x000 v) t where
  ackMatch hne := by
    obtain ⟨k, rfl⟩ := h.ackMatch hne
    exact ⟨v, k, rfl, hb, hi⟩
  ovrSet hs ht := by simp_all [h.ovr]
  ovrCleared hs ht := by simp_all [h.ovr]
  diagAuthSet hs ht := by
    rcases h.diag with ⟨ha, -⟩ | ⟨p, -, ha, -⟩ <;> simp_all
  diagNavSet hs ht := by
    rcases h.diag with ⟨-, hn⟩ | ⟨p, -, -, hn⟩ <;> simp_all
  diagCleared hd := by
    rcases h.diag with ⟨ha, hn⟩ | ⟨p, rfl, -, -⟩
    · simp_all
    · exact ⟨v, p, rfl, hb, hi⟩
  code _ := .inl ⟨v, rfl, hb⟩

/-- A response keeps the rules of the status flags. -/
theorem ResponseEffect.statusRules {s t : State} {leg : Leg} {r : List Byte} (e : Event)
    (hp : s.pos = .awaitRead leg) (h : ResponseEffect s leg r t) : StatusRules s e t := by
  have flags : t.ackMatch = s.ackMatch ∧ t.ovr = s.ovr ∧ t.diagAuth = (noteResponse leg r s).diagAuth ∧
      t.diagNav = (noteResponse leg r s).diagNav := by
    cases h with
    | ended | continued => exact ⟨rfl, rfl, rfl, rfl⟩
  obtain ⟨hm, ho, ha, hn⟩ := flags
  refine ⟨absurd hm, by simp_all, by simp_all, fun hs ht => ?_, fun hs ht => ?_, fun hd => ?_, fun hc => ?_⟩
  · rw [ha] at ht
    simp_all [noteResponse]
  · rw [hn] at ht
    simp_all [noteResponse]
  · rw [ha, hn] at hd
    rcases hd with ⟨hs, ht⟩ | ⟨hs, ht⟩ <;> simp [noteResponse, hs] at ht
  · cases h with
    | ended c => exact .inr ⟨by simp [busy, hp], rfl⟩
    | continued => exact absurd rfl hc

/-- Every event but a reset keeps the rules of the status flags. -/
theorem EventEffect.statusRules {s t : State} {e : Event} (h : EventEffect s e t) (he : e ≠ .powerReset) :
    StatusRules s e t := by
  cases h with
  | powerReset => exact absurd rfl he
  | dropped a v hb hp =>
    exact ⟨absurd rfl, fun _ _ => ⟨a, v, rfl, hb, hp⟩, nofun, by simp_all, by simp_all, by simp_all, absurd rfl⟩
  | clearOvr v hv =>
    exact ⟨absurd rfl, nofun, fun _ _ => ⟨v, rfl, hv⟩, by simp_all, by simp_all, by simp_all, absurd rfl⟩
  | illegal v hb => exact SameFlags.statusRules ⟨rfl, rfl, rfl, rfl⟩ fun _ => .inl ⟨v, rfl, hb⟩
  | command v i hb hi hc => exact hc.statusRules hb hi
  | written leg f hp => exact SameFlags.statusRules (by simp [SameFlags]) (by simp)
  | transportError e hb => exact SameFlags.statusRules ⟨rfl, rfl, rfl, rfl⟩ fun _ => .inr ⟨hb, rfl⟩
  | response leg r hp hr =>
    obtain ⟨hm, hos, hoc, has, hns, hd, hc⟩ := ResponseEffect.statusRules (s := storeRx r.bytes s) (.readAnswer (.ok r)) hp hr
    exact ⟨hm, hos, hoc, has, hns, hd, hc⟩
  | _ => exact SameFlags.statusRules ⟨rfl, rfl, rfl, rfl⟩ (absurd rfl)

/-- Settles O27: the rules of the status flags, with the step's event read off the list. -/
theorem statusFlagsChangeByTheirRules : Obligations.StatusFlagsChangeByTheirRules := by
  intro s t h
  rcases step_effect h with rfl | ⟨e, rest, he, heff⟩
  · exact .inr ⟨absurd rfl, by simp_all, by simp_all, by simp_all, by simp_all, by simp_all, absurd rfl⟩
  · by_cases hne : e = .powerReset
    · exact .inl ⟨rest, hne ▸ he⟩
    · obtain ⟨hm, hos, hoc, has, hns, hd, hc⟩ := heff.statusRules hne
      refine .inr ⟨fun h => ?_, fun h h' => ?_, fun h h' => ?_, has, hns, fun h => ?_, fun h => ?_⟩
      · obtain ⟨v, k, rfl, hb, hi⟩ := hm h
        exact ⟨v, rest, k, he, hb, hi⟩
      · obtain ⟨a, v, rfl, hb, hp⟩ := hos h h'
        exact ⟨a, v, rest, he, hb, hp⟩
      · obtain ⟨v, rfl, hv⟩ := hoc h h'
        exact ⟨v, rest, he, hv⟩
      · obtain ⟨v, p, rfl, hb, hi⟩ := hd h
        exact ⟨v, rest, p, he, hb, hi⟩
      · exact (hc h).imp_left fun ⟨v, hv, hb⟩ => ⟨v, rest, hv ▸ he, hb⟩

end Sys2Proof.Machine
end

section
/-! SUPPORT. The log and the response buffer (R36, R37), and what the host reads at each address (R22, R41). -/

namespace Sys2Proof.Machine

/-! ### The log (R37) -/

theorem bufferHolds_fill (m : Memory) (base cap : Nat) (bs : List Byte) :
    bufferHolds (m.fill base cap bs) base cap bs :=
  fun _ hi => Memory.read_fill_inside m bs hi

/-- The step that takes a write answer of the full length. -/
theorem step_written {s : State} {leg : Leg} {f : List Byte} {rest : List Event} (hp : s.pos = .awaitWrite leg f)
    (he : s.events = .writeAnswer (.ok f.length) :: rest) :
    step s = .next (issueRead leg (logFrame f { s with events := rest })) := by
  rw [step_event he]
  simp [deliver, onWriteAnswer, hp]

/-- Settles O50: with no frame logged the frame goes to `TX0`, with one logged to `TX1`. -/
theorem writtenFramesAreLogged : Obligations.WrittenFramesAreLogged := by
  intro s leg f rest hp he hf ht
  refine ⟨_, step_written hp he, ?_⟩
  by_cases h0 : s.txCount = 0
  · rw [logFrame_first (s := { s with events := rest }) f h0]
    refine ⟨fun _ => ⟨toNat_frameLen hf, bufferHolds_fill _ _ _ _, rfl, fun a ha => ?_⟩, ?_, rfl⟩
    · exact Memory.read_fill_outside s.mem f ha
    · simp [h0]
  · rw [logFrame_second (s := { s with events := rest }) f h0]
    refine ⟨fun h => absurd h h0, fun _ => ⟨toNat_frameLen hf, bufferHolds_fill _ _ _ _, rfl, fun a ha => ?_⟩, rfl⟩
    exact Memory.read_fill_outside s.mem f ha

/-! ### The response buffer (R36) -/

/-- A buffer that holds `bs` begins with the bytes of `bs`. -/
theorem bytes_of_bufferHolds {m : Memory} {base cap : Nat} {bs : List Byte} (h : bufferHolds m base cap bs)
    (hlen : bs.length ≤ cap) : m.bytes base bs.length = bs := by
  refine List.ext_getElem (by simp) fun i h1 h2 => ?_
  simp only [Memory.bytes, List.getElem_map, List.getElem_range]
  rw [h i (by omega), List.getD_eq_getElem bs 0 h2]

/-- Nothing that a response decides writes `RX` or its length. -/
theorem ResponseEffect.rx {s t : State} {leg : Leg} {r : List Byte} (he : ResponseEffect s leg r t) :
    t.rxLen = s.rxLen ∧ ∀ a, rxBase ≤ a → t.mem.read a = s.mem.read a := by
  cases he with
  | ended c => exact ⟨rfl, fun _ _ => rfl⟩
  | continued data =>
    obtain ⟨h0, h1, h2⟩ := windows_apart
    exact ⟨rfl, fun a ha => Memory.read_fill_outside s.mem _ (by omega)⟩

/-- Settles O51: the response is stored before it is judged, and no judgement touches `RX`. -/
theorem responsesAreStoredInRx : Obligations.ResponsesAreStoredInRx := by
  intro s leg r rest hp he
  refine ⟨afterRead leg r.bytes (storeRx r.bytes { s with events := rest }), ?_, ?_⟩
  · rw [step_event he]
    simp [deliver, onReadAnswer, hp]
  · obtain ⟨hlen, hread⟩ := (afterRead_effect leg r.bytes (storeRx r.bytes { s with events := rest })).rx
    have hholds : bufferHolds (afterRead leg r.bytes (storeRx r.bytes { s with events := rest })).mem rxBase
        Config.rxCap r.bytes := fun i hi =>
      (hread _ (by omega)).trans (bufferHolds_fill _ _ _ _ i hi)
    rw [hlen, storeRx_rxLen, toNat_rxLen r.fits]
    exact ⟨rfl, hholds, bytes_of_bufferHolds hholds r.fits⟩

/-! ### Host reads (R22) -/

/-- Below the buffers every aligned address is a register's or reserved. -/
theorem hostRead_register {a : PortAddr} (h4 : a.toNat % 4 = 0) (hlt : a.toNat < frameBase) (s : State) :
    hostRead s a = readRegister s a.toNat := by
  have hb : isBufferAddr a.toNat = false := by
    have hw (base cap : Nat) (h : frameBase ≤ base) : inWindow base cap a.toNat = false :=
      decide_eq_false fun ⟨h1, _⟩ => by omega
    simp [isBufferAddr, hw frameBase _ le_rfl, hw tx0Base _ (by decide), hw tx1Base _ (by decide),
      hw rxBase _ (by decide)]
  simp [hostRead, aligned, h4, hb]

/-- The place `i` of a buffer reads as its byte. -/
theorem hostRead_window {base cap i : Nat} (hb : ∀ a, inWindow base cap a = true → isBufferAddr a = true)
    (h4 : base % 4 = 0) (hfit : base + 4 * cap ≤ 2 ^ 16) (hi : i < cap) (s : State) :
    (hostRead s (BitVec.ofNat 16 (base + 4 * i))).toNat = (s.mem.read (base + 4 * i)).toNat := by
  have ha : (BitVec.ofNat 16 (base + 4 * i)).toNat = base + 4 * i := by
    rw [BitVec.toNat_ofNat, Nat.mod_eq_of_lt (by omega)]
  have hin : isBufferAddr (base + 4 * i) = true := hb _ (decide_eq_true ⟨by omega, by omega, by omega⟩)
  have hal : (base + 4 * i) % 4 = 0 := by omega
  have := (s.mem.read (base + 4 * i)).isLt
  simp only [hostRead, aligned, ha, hal, hin, decide_true, if_true, BitVec.toNat_setWidth]
  omega

/-- The width of `RX_LEN` is the least that holds `RX_CAP`, and fits a word. -/
theorem rxLenBits_bounds : 2 ^ (Config.rxLenBits - 1) ≤ Config.rxCap ∧ Config.rxLenBits ≤ 32 := by
  have hlo := Config.le_rxCap
  have hhi := Config.rxCap_le
  constructor
  · exact Nat.lt_succ_iff.mp (Nat.pow_pred_clog_lt_self (by decide) (by omega))
  · exact Nat.clog_le_of_le_pow (by omega)

theorem status_code (s : State) : (statusWord s).extractLsb' 0 4 = codeBits s.code := by
  ext i hi
  simp only [statusWord, BitVec.getElem_extractLsb', BitVec.getLsbD_append]
  simp [hi]

theorem status_flags (s : State) :
    (statusWord s).getLsbD 4 = busy s ∧ (statusWord s).getLsbD 5 = s.ovr ∧ (statusWord s).getLsbD 6 = s.ackMatch ∧
      (statusWord s).getLsbD 7 = s.diagAuth ∧ (statusWord s).getLsbD 8 = s.diagNav := by
  simp only [statusWord, BitVec.getLsbD_append]
  simp

/-- Above the flags stand `TXCOUNT` and zeros. -/
theorem status_getLsbD_high (s : State) (i : Nat) :
    (statusWord s).getLsbD (9 + i) = (decide (i < 2) && s.txCount.getLsbD i) := by
  have hflag (k : Nat) (hk : k ≤ 8) : ¬ 9 + i - k < 1 := by omega
  have hcode : ¬ 9 + i < 4 := by omega
  unfold statusWord
  simp only [BitVec.getLsbD_append, hcode, if_false]
  simp only [Nat.sub_sub, Nat.reduceAdd, hflag, Nat.le_refl, Nat.reduceLeDiff, if_false, Nat.add_sub_cancel_left]
  split_ifs with hi <;> simp [hi]

theorem status_txCount (s : State) : (statusWord s).extractLsb' 9 2 = s.txCount := by
  ext i hi
  rw [BitVec.getElem_extractLsb', status_getLsbD_high]
  simp [hi]

theorem status_reserved (s : State) : (statusWord s).extractLsb' 11 21 = 0 := by
  ext i hi
  rw [BitVec.getElem_extractLsb', show 11 + i = 9 + (2 + i) by omega, status_getLsbD_high]
  simp

/-- Two fields in one word: the high one counts multiples of the low one's range. -/
theorem toNat_fields {v w : Nat} (x : BitVec v) (y : BitVec w) : (x ++ y).toNat = y.toNat + x.toNat * 2 ^ w := by
  rw [BitVec.toNat_append, ← Nat.shiftLeft_add_eq_or_of_lt y.isLt, Nat.shiftLeft_eq, Nat.add_comm]

theorem toNat_ndtpCtx (s : State) :
    ((BitVec.ofBool s.ndtpAuth ++ s.ndtpPid).setWidth 32).toNat =
      s.ndtpPid.toNat + (if s.ndtpAuth then 2 ^ 16 else 0) := by
  have := s.ndtpPid.isLt
  rw [BitVec.toNat_setWidth, toNat_fields]
  cases s.ndtpAuth <;> simp <;> omega

theorem toNat_authWord (s : State) :
    ((BitVec.ofBool s.wlnAuth ++ BitVec.ofBool s.ntcAuth).setWidth 32).toNat =
      (if s.ntcAuth then 1 else 0) + (if s.wlnAuth then 2 else 0) := by
  cases s.wlnAuth <;> cases s.ntcAuth <;> rfl

/-- A register of less than 32 bits reads as its value. -/
theorem toNat_hostRead_narrow {a : PortAddr} {s : State} {w : Nat} {x : BitVec w} (h4 : a.toNat % 4 = 0)
    (hlt : a.toNat < frameBase) (hx : readRegister s a.toNat = x.setWidth 32) (hw : w ≤ 32) :
    (hostRead s a).toNat = x.toNat := by
  rw [hostRead_register h4 hlt, hx, BitVec.toNat_setWidth_of_le hw]

/-- Settles O11: the registers by their words, the buffers by their windows. -/
theorem hostReadsTheRegisterMap : Obligations.HostReadsTheRegisterMap := by
  intro s
  have reg (a : PortAddr) (h4 : a.toNat % 4 = 0) (hlt : a.toNat < frameBase) :
      hostRead s a = readRegister s a.toNat := hostRead_register h4 hlt s
  have hstatus : hostRead s 0x004 = statusWord s := reg 0x004 (by decide) (by decide)
  obtain ⟨hbusy, hovr, hmatch, hauth, hnav⟩ := status_flags s
  obtain ⟨hlo, hbits⟩ := rxLenBits_bounds
  obtain ⟨h0, h1, h2⟩ := windows_apart
  have hrx : rxBase + 4 * Config.rxCap ≤ 2 ^ 16 := by
    have := Config.rxCap_le
    simp only [rxBase]
    omega
  rw [hstatus]
  refine ⟨?_, hbusy, hovr, hmatch, hauth, hnav, status_txCount s, status_reserved s,
    reg 0x008 (by decide) (by decide), reg 0x00C (by decide) (by decide), reg 0x010 (by decide) (by decide),
    reg 0x014 (by decide) (by decide), reg 0x018 (by decide) (by decide), ?_, ?_, ?_, ?_, ?_, ?_,
    reg 0x034 (by decide) (by decide), ?_, ?_, ?_, hlo, Config.rxCap_lt, ?_, ?_, ?_, ?_, ?_, ?_⟩
  · rw [status_code]
    cases s.code <;> rfl
  · exact toNat_hostRead_narrow (a := 0x01C) (by decide) (by decide) rfl (by decide)
  · exact toNat_hostRead_narrow (a := 0x020) (by decide) (by decide) rfl (by decide)
  · exact toNat_hostRead_narrow (a := 0x024) (by decide) (by decide) rfl (by decide)
  · exact toNat_hostRead_narrow (a := 0x028) (by decide) (by decide) rfl (by decide)
  · exact (congrArg _ (reg 0x02C (by decide) (by decide))).trans (toNat_ndtpCtx s)
  · exact (congrArg _ (reg 0x030 (by decide) (by decide))).trans (toNat_fields s.egtsRn s.egtsPid)
  · exact (congrArg _ (reg 0x038 (by decide) (by decide))).trans (toNat_authWord s)
  · exact toNat_hostRead_narrow (a := 0x03C) (by decide) (by decide) rfl (by decide)
  · exact toNat_hostRead_narrow (a := 0x040) (by decide) (by decide) rfl hbits
  · exact toNat_hostRead_narrow (a := 0x044) (by decide) (by decide) rfl (by decide)
  · exact toNat_hostRead_narrow (a := 0x048) (by decide) (by decide) rfl (by decide)
  · exact fun i hi => hostRead_window (fun _ h => isBufferAddr_of_window (.inl h)) rfl (by omega) hi s
  · exact fun i hi => hostRead_window (fun _ h => isBufferAddr_of_window (.inr (.inl h))) rfl (by omega) hi s
  · exact fun i hi => hostRead_window (fun _ h => isBufferAddr_of_window (.inr (.inr (.inl h)))) rfl (by omega) hi s
  · exact fun i hi => hostRead_window (fun _ h => isBufferAddr_of_window (.inr (.inr (.inr h)))) rfl (by omega) hi s

/-! ### Reset values (R41, R330) -/

/-- The registers after reset: only the accumulators hold a value other than 0. -/
theorem readRegister_reset (a : Nat) :
    readRegister State.reset a = if a = 0x01C then 0xFF else if a = 0x020 ∨ a = 0x024 then 0xFFFF else 0 := by
  unfold readRegister
  split <;> simp_all [State.reset, statusWord, busy, codeBits]

theorem hostRead_reset_zero {a : PortAddr} (h8 : a ≠ 0x01C) (h16 : ¬ (a = 0x020 ∨ a = 0x024)) :
    hostRead State.reset a = 0 := by
  have ne (b : PortAddr) (h : a ≠ b) : a.toNat ≠ b.toNat := fun h' => h (BitVec.eq_of_toNat_eq h')
  obtain ⟨hc, hm⟩ := not_or.mp h16
  have h8' : a.toNat ≠ 0x01C := ne _ h8
  have h16' : ¬ (a.toNat = 0x020 ∨ a.toNat = 0x024) := not_or.mpr ⟨ne _ hc, ne _ hm⟩
  unfold hostRead
  split_ifs with h4 hb
  · rfl
  · rw [readRegister_reset, if_neg h8', if_neg h16']
  · rfl

/-- Settles O12: three accumulators hold a value, and every other address reads 0. -/
theorem resetValuesOfThePort : Obligations.ResetValuesOfThePort := by
  refine ⟨fun a => ?_, rfl, rfl⟩
  split_ifs with h8 h16
  · subst h8
    exact hostRead_register (by decide) (by decide) _
  · rcases h16 with rfl | rfl <;> exact hostRead_register (by decide) (by decide) _
  · exact hostRead_reset_zero h8 h16

end Sys2Proof.Machine
end

section
/-! SUPPORT. The host port (R60 to R65): what each host access does to an idle and to a busy block. -/

namespace Sys2Proof.Machine

/-! ### Reads (R61 to R63) -/

theorem hostRead_misaligned {a : PortAddr} (h : a.toNat % 4 ≠ 0) (s : State) : hostRead s a = 0 := by
  simp [hostRead, aligned, h]

/-- Behind the last register of R22's map no register answers. -/
theorem readRegister_unlisted {a : Nat} (h : 0x048 < a) (s : State) : readRegister s a = 0 := by
  unfold readRegister
  split
  all_goals try omega
  rfl

theorem hostRead_cmd (s : State) : hostRead s 0x000 = 0 := hostRead_register (by decide) (by decide) s

theorem listedAddr_eq_false_iff {a : PortAddr} (h4 : a.toNat % 4 = 0) :
    listedAddr a = false ↔ 0x048 < a.toNat ∧ isBufferAddr a.toNat = false := by
  simp [listedAddr, h4]

theorem hostRead_unlisted {a : PortAddr} (h4 : a.toNat % 4 = 0) (h : listedAddr a = false) (s : State) :
    hostRead s a = 0 := by
  obtain ⟨hreg, hbuf⟩ := (listedAddr_eq_false_iff h4).mp h
  simp [hostRead, hbuf, readRegister_unlisted hreg]

/-- A host read is answered from the present state, idle or `BUSY`, and changes nothing of the block (R63, R64). -/
theorem step_hostRead {s : State} {a : PortAddr} {rest : List Event} (he : s.events = .hostRead a :: rest) :
    step s = .next { s with readData := hostRead s a, events := rest } :=
  step_event he

/-! ### The addresses that a busy block protects (R64) -/

/-- The registers of R64's list; the bytes of `RX` are protected besides. -/
def protectedRegisters : List PortAddr := [0x000, 0x008, 0x00C, 0x010, 0x014, 0x018, 0x040]

theorem protectedRegisters_bounds {a : PortAddr} (h : a ∈ protectedRegisters) :
    a.toNat % 4 = 0 ∧ a.toNat ≤ 0x048 := by
  unfold protectedRegisters at h
  fin_cases h <;> decide

theorem busyProtected_iff {a : PortAddr} :
    busyProtected a = true ↔ a ∈ protectedRegisters ∨ inWindow rxBase Config.rxCap a.toNat = true := by
  rw [busyProtected, Bool.or_eq_true, decide_eq_true_iff, protectedRegisters]

theorem busyProtected_of_rx {a : PortAddr} (h : inWindow rxBase Config.rxCap a.toNat = true) :
    busyProtected a = true :=
  busyProtected_iff.mpr (.inr h)

theorem aligned_of_busyProtected {a : PortAddr} (h : busyProtected a = true) : a.toNat % 4 = 0 := by
  rcases busyProtected_iff.mp h with ha | hw
  · exact (protectedRegisters_bounds ha).1
  · exact (of_decide_eq_true hw).2.2

theorem listedAddr_of_busyProtected {a : PortAddr} (h : busyProtected a = true) : listedAddr a = true := by
  rcases busyProtected_iff.mp h with ha | hw
  · simp [listedAddr, protectedRegisters_bounds ha]
  · simp [listedAddr, isBufferAddr_of_window (.inr (.inr (.inr hw)))]

/-! ### The addresses whose writes are ignored (R62): neither `STATUS` nor protected -/

theorem readOnly_of_unlisted {a : PortAddr} (h : listedAddr a = false) : a ≠ 0x004 ∧ busyProtected a = false := by
  have not_listed (hl : listedAddr a = true) : False := Bool.false_ne_true (h.symm.trans hl)
  exact ⟨fun ha => not_listed (ha ▸ rfl), eq_false_of_ne_true fun hp => not_listed (listedAddr_of_busyProtected hp)⟩

/-- The windows of `FRAME`, `TX0` and `TX1` stand between the registers and `RX`. -/
theorem readOnly_of_frameWindow {a : PortAddr} {base : Nat} (hlo : frameBase ≤ base)
    (hhi : base + 4 * Config.frameCap ≤ rxBase) (hw : inWindow base Config.frameCap a.toNat = true) :
    a ≠ 0x004 ∧ busyProtected a = false := by
  obtain ⟨hbase, hend, -⟩ := of_decide_eq_true hw
  have not_register (hreg : a.toNat ≤ 0x048) : False :=
    absurd ((hlo.trans hbase).trans hreg) (by decide)
  refine ⟨fun ha => not_register (by rw [ha]; decide), eq_false_of_ne_true fun hp => ?_⟩
  rcases busyProtected_iff.mp hp with ha | hrx
  · exact not_register (protectedRegisters_bounds ha).2
  · have := (of_decide_eq_true hrx).1
    omega

/-! ### Register writes (R62 to R65) -/

theorem unlessBusy_idle {s : State} (h : busy s = false) (t : State) : unlessBusy s t = t := by
  simp [unlessBusy, h]

theorem unlessBusy_busy {s : State} (h : busy s = true) (t : State) : unlessBusy s t = dropWrite s := by
  simp [unlessBusy, h]

/-- `STATUS` is write-1-to-clear in bit 5 and ignores the other bits (R22, R64). -/
theorem writeRegister_status (v : Word) (s : State) :
    writeRegister 0x004 v s = { s with ovr := s.ovr && !v.getLsbD 5 } := by
  unfold writeRegister
  cases v.getLsbD 5 <;> simp

/-- No register stands in the window of `RX`. -/
theorem writeRegister_rx {a : Nat} (h : inWindow rxBase Config.rxCap a = true) (v : Word) (s : State) :
    writeRegister a v s = unlessBusy s { s with mem := s.mem.write a (v.setWidth 8) } := by
  have hlo : 0x1000 ≤ a := (of_decide_eq_true h).1
  unfold writeRegister
  split
  all_goals try omega
  exact if_pos h

theorem writeRegister_busy {a : PortAddr} {s : State} (hb : busy s = true) (hp : busyProtected a = true)
    (h0 : a ≠ 0x000) (v : Word) : writeRegister a.toNat v s = dropWrite s := by
  rcases busyProtected_iff.mp hp with ha | hw
  · unfold protectedRegisters at ha
    fin_cases ha
    · exact absurd rfl h0
    all_goals exact unlessBusy_busy hb _
  · rw [writeRegister_rx hw, unlessBusy_busy hb]

/-- `STATUS` and the protected addresses are the only ones where a register write can do something. -/
theorem writeRegister_readOnly {a : PortAddr} (hst : a ≠ 0x004) (hp : busyProtected a = false) (v : Word) (s : State) :
    writeRegister a.toNat v s = s := by
  have unprotected (b : PortAddr) (hb : busyProtected b = true) (h : a.toNat = b.toNat) : False :=
    Bool.false_ne_true (hp.symm.trans (BitVec.eq_of_toNat_eq h ▸ hb))
  unfold writeRegister
  split
  · next h => exact absurd (BitVec.eq_of_toNat_eq h) hst
  · next h => exact (unprotected 0x008 rfl h).elim
  · next h => exact (unprotected 0x00C rfl h).elim
  · next h => exact (unprotected 0x010 rfl h).elim
  · next h => exact (unprotected 0x014 rfl h).elim
  · next h => exact (unprotected 0x018 rfl h).elim
  · next h => exact (unprotected 0x040 rfl h).elim
  · exact if_neg fun hw => unprotected a (busyProtected_of_rx hw) rfl

/-! ### Host writes (R60 to R65) -/

/-- R64: a busy block drops the write and sets `OVR`. -/
theorem hostWrite_busy {a : PortAddr} {s : State} (hb : busy s = true) (hp : busyProtected a = true) (v : Word) :
    hostWrite a v s = .next (dropWrite s) := by
  by_cases h0 : a = 0x000
  · rw [h0, hostWrite_cmd_busy hb]
  · rw [hostWrite_register (aligned_of_busyProtected hp) h0, writeRegister_busy hb hp h0]

/-- R62: the write is ignored, idle or `BUSY`. -/
theorem hostWrite_readOnly {a : PortAddr} (h4 : a.toNat % 4 = 0) (hst : a ≠ 0x004) (hp : busyProtected a = false)
    (v : Word) (s : State) : hostWrite a v s = .next s := by
  have h0 : a ≠ 0x000 := fun h => Bool.false_ne_true (hp.symm.trans (h ▸ rfl))
  rw [hostWrite_register h4 h0, writeRegister_readOnly hst hp]

theorem step_hostWrite {s : State} {a : PortAddr} {v : Word} {rest : List Event}
    (he : s.events = .hostWrite a v :: rest) : step s = hostWrite a v { s with events := rest } :=
  step_event he

theorem step_hostWrite_status {s : State} {v : Word} {rest : List Event} (he : s.events = .hostWrite 0x004 v :: rest) :
    step s = .next { s with ovr := s.ovr && !v.getLsbD 5, events := rest } := by
  rw [step_hostWrite he, hostWrite_register (by decide) (by decide)]
  exact congrArg _ (writeRegister_status v _)

/-- An idle block takes the write of a protected register, of which `hw` says what is written. -/
theorem step_hostWrite_idle {s t : State} {a : PortAddr} {v : Word} {rest : List Event} (hb : busy s = false)
    (he : s.events = .hostWrite a v :: rest) (h4 : a.toNat % 4 = 0) (h0 : a ≠ 0x000)
    (hw : writeRegister a.toNat v { s with events := rest } = unlessBusy { s with events := rest } t) :
    step s = .next t := by
  rw [step_hostWrite he, hostWrite_register h4 h0, hw, unlessBusy_idle (busy_events s rest ▸ hb)]

/-- A write to `RX_LEN` of an idle block, taken or ignored (R65). -/
theorem step_hostWrite_rxLen {s : State} {v : Word} {rest : List Event} (hb : busy s = false)
    (he : s.events = .hostWrite 0x040 v :: rest) : step s = .next (setRxLen v { s with events := rest }) :=
  step_hostWrite_idle hb he (by decide) (by decide) rfl

/-- A write to the byte of `RX` at address `a` of an idle block (R65). -/
theorem step_hostWrite_rx {s : State} {a : PortAddr} {v : Word} {rest : List Event} (hb : busy s = false)
    (he : s.events = .hostWrite a v :: rest) (hw : inWindow rxBase Config.rxCap a.toNat = true) :
    step s = .next { s with mem := s.mem.write a.toNat (v.setWidth 8), events := rest } := by
  have h0 : a ≠ 0x000 := fun h => absurd (of_decide_eq_true hw).1 (by rw [h]; decide)
  exact step_hostWrite_idle hb he (of_decide_eq_true hw).2.2 h0 (writeRegister_rx hw v _)

/-! ### The address of a byte of `RX` (R22) -/

theorem toNat_rxAddr {i : Nat} (h : i < Config.rxCap) : (BitVec.ofNat 16 (rxBase + 4 * i)).toNat = rxBase + 4 * i := by
  have := Config.rxCap_le
  rw [BitVec.toNat_ofNat, Nat.mod_eq_of_lt (by simp only [rxBase]; omega)]

theorem inWindow_rxAddr {i : Nat} (h : i < Config.rxCap) : inWindow rxBase Config.rxCap (rxBase + 4 * i) = true :=
  decide_eq_true ⟨by omega, by omega, by simp only [rxBase]; omega⟩

/-! ### The command word of `withFetchWord` (R304, log entry 7) -/

theorem decode_of_decodeTableWord {w : Nat} {i : Instr} (h : decodeTableWord 16 w = some i) :
    decode ((BitVec.ofNat 32 (w % 2 ^ 16)).setWidth 16) = .ok i := by
  have hw : (BitVec.ofNat 32 (w % 2 ^ 16)).setWidth 16 = BitVec.ofNat 16 (w % 2 ^ 16) :=
    BitVec.setWidth_ofNat_of_le (by decide) _
  unfold decodeTableWord at h
  rw [hw]
  split at h
  · next hd => rw [hd, Option.some.inj h]
  · cases h

/-- An idle block runs the command that is written to `CMD` (R63). -/
theorem step_hostWrite_cmd {s : State} {v : Word} {rest : List Event} {i : Instr} (hb : busy s = false)
    (he : s.events = .hostWrite 0x000 v :: rest) (hd : decode (v.setWidth 16) = .ok i) :
    step s = exec i { s with events := rest } := by
  rw [step_hostWrite he, hostWrite_cmd_idle (busy_events s rest ▸ hb), runWord_legal hd]

/-! ### The statements of the host port -/

/-- Settles O6: a protected write is dropped; `STATUS` writes and reads do not ask for `BUSY`. -/
theorem busyBlockDropsProtectedWrites : Obligations.BusyBlockDropsProtectedWrites := by
  intro s rest hb
  refine ⟨fun a v he hp => ?_, fun v => step_hostWrite_status, fun a => step_hostRead⟩
  rw [step_hostWrite he, hostWrite_busy (busy_events s rest ▸ hb) hp]
  rfl

/-- Settles O8: a read finds no register, and a write finds neither `STATUS` nor a protected address. -/
theorem reservedAccessesDoNothing : Obligations.ReservedAccessesDoNothing := by
  intro s a rest
  refine ⟨fun h4 ha => ?_, fun h4 ha v he => ?_⟩
  · have hzero : hostRead s a = 0 := by
      rcases ha with hl | rfl
      · exact hostRead_unlisted h4 hl s
      · exact hostRead_cmd s
    exact ⟨hzero, fun he => hzero ▸ step_hostRead he⟩
  · obtain ⟨h0, h1, h2⟩ := windows_apart
    obtain ⟨hst, hp⟩ : a ≠ 0x004 ∧ busyProtected a = false := by
      rcases ha with hl | hreg | hw | hw | hw
      · exact readOnly_of_unlisted hl
      · fin_cases hreg <;> exact ⟨by decide, rfl⟩
      · exact readOnly_of_frameWindow (by omega) (by omega) hw
      · exact readOnly_of_frameWindow (by omega) (by omega) hw
      · exact readOnly_of_frameWindow (by omega) (by omega) hw
    rw [step_hostWrite he, hostWrite_readOnly h4 hst hp]

/-- Settles O10: the store of the byte by the memory's own laws, the length by the width of `RX_LEN`. -/
theorem responseBufferWrites : Obligations.ResponseBufferWrites := by
  intro s v rest hm hb
  refine ⟨fun i hi he => ?_, fun he hv => ?_, fun he hv => ?_⟩
  · have hs := step_hostWrite_rx hb he (by rw [toNat_rxAddr hi]; exact inWindow_rxAddr hi)
    rw [toNat_rxAddr hi] at hs
    exact ⟨_, hs, Memory.read_write_same hm.1 _ _, fun a ha => Memory.read_write_other s.mem _ ha, rfl⟩
  · exact ⟨_, (step_hostWrite_rxLen hb he).trans (congrArg _ (if_pos hv)), toNat_setWidth_rxLen hv, rfl⟩
  · exact (step_hostWrite_rxLen hb he).trans (congrArg _ (if_neg (Nat.not_le.mpr hv)))

/-- Settles O4: `withFetchWord` is an idle block with the `CMD` write to come. -/
theorem stepRunsTheDecodedCommand : Obligations.StepRunsTheDecodedCommand :=
  ⟨fun _ _ _ _ hb he hd => step_hostWrite_cmd hb he hd,
    fun s w _ hw => step_hostWrite_cmd (s := s.withFetchWord 16 w) rfl rfl (decode_of_decodeTableWord hw)⟩

/-- Settles O7: alignment is asked for before anything else. -/
theorem misalignedAccessesDoNothing : Obligations.MisalignedAccessesDoNothing := by
  intro s a rest h4
  refine ⟨hostRead_misaligned h4 s, fun he => ?_, fun v he => ?_⟩
  · rw [step_hostRead he, hostRead_misaligned h4]
  · rw [step_hostWrite he, hostWrite_misaligned h4]

/-- Settles O9: one register per address. -/
theorem hostAccessesOfAnIdleBlock : Obligations.HostAccessesOfAnIdleBlock := by
  intro s rest hb
  refine ⟨fun a => step_hostRead, fun v => step_hostWrite_status, ?_, ?_, ?_, ?_, ?_⟩
  all_goals exact fun v he => step_hostWrite_idle hb he (by decide) (by decide) rfl

end Sys2Proof.Machine
end

section
/-! SUPPORT. The decoder and the encoder (R80 to R86): the fields of a word, the four operand formats, and the format that
each opcode selects. -/

namespace Sys2Proof.Machine
open Sys2Proof.Laws

/-! ### The two fields of a word (R80) -/

theorem toNat_wordOp (w : Half) : (wordOp w).toNat = w.toNat / 256 := by
  have := w.isLt
  simp only [wordOp, BitVec.extractLsb'_toNat, Nat.shiftRight_eq_div_pow]
  omega

theorem toNat_wordOpd (w : Half) : (wordOpd w).toNat = w.toNat % 256 := by
  simp [wordOpd, BitVec.extractLsb'_toNat]

theorem wordOp_append_wordOpd (w : Half) : wordOp w ++ wordOpd w = w := by
  refine BitVec.eq_of_toNat_eq ?_
  rw [BitVec.toNat_append, ← Nat.shiftLeft_add_eq_or_of_lt (wordOpd w).isLt, toNat_wordOp, toNat_wordOpd,
    Nat.shiftLeft_eq]
  exact Nat.div_add_mod' w.toNat 256

theorem encode_eq_of_fields {w : Half} {i : Instr} (hop : opcodeOf i = wordOp w) (hopd : operandOf i = wordOpd w) :
    encode i = w := by
  rw [encode, hop, hopd, wordOp_append_wordOpd]

/-! ### The operand formats (R80 to R83): what each check accepts, and what it refuses -/

/-! Every format's check is a condition with a command on one side and a reason on the other. -/

section Check
variable {c : Prop} [Decidable c] {i j : Instr} {x : Illegal}

theorem check_ok (h : (if c then Except.ok i else .error x) = .ok j) : c ∧ i = j := by
  split at h
  · next hc => exact ⟨hc, Except.ok.inj h⟩
  · cases h

theorem check_error_iff : (∃ e, (if c then Except.ok i else .error x) = .error e) ↔ ¬ c := by
  split <;> simp_all

end Check

theorem decodeZ_ok {opd : Byte} {i j : Instr} (h : decodeZ opd i = .ok j) : opd = 0 ∧ i = j := check_ok h

theorem decodeZ_error_iff (opd : Byte) (i : Instr) : (∃ e, decodeZ opd i = .error e) ↔ opd.toNat ≠ 0 :=
  check_error_iff.trans (not_congr BitVec.toNat_inj.symm)

/-- The bits of an operand above its low `n` are 0 exactly where it is below 2^n. -/
theorem highBits_eq_zero_iff {n m : Nat} (hn : n + m = 8) (opd : Byte) :
    opd.extractLsb' n m = 0 ↔ opd.toNat / 2 ^ n = 0 := by
  have hlt : opd.toNat / 2 ^ n < 2 ^ m := Nat.div_lt_of_lt_mul (by rw [← Nat.pow_add, hn]; exact opd.isLt)
  rw [← BitVec.toNat_inj, BitVec.extractLsb'_toNat, Nat.shiftRight_eq_div_pow, Nat.mod_eq_of_lt hlt]
  rfl

/-- R81: such an operand is the zero extension of its low `n` bits. -/
theorem setWidth_lowBits {n m : Nat} {opd : Byte} (hn : n + m = 8) (h : opd.extractLsb' n m = 0) :
    (opd.extractLsb' 0 n).setWidth 8 = opd := by
  have hlt : opd.toNat < 2 ^ n := Nat.lt_of_div_eq_zero (Nat.two_pow_pos n) ((highBits_eq_zero_iff hn opd).mp h)
  refine BitVec.eq_of_toNat_eq ?_
  rw [BitVec.toNat_setWidth, BitVec.extractLsb'_toNat, Nat.shiftRight_zero, Nat.mod_eq_of_lt hlt,
    Nat.mod_eq_of_lt opd.isLt]

theorem protocolBits_protocolOf : ∀ p : BitVec 2, protocolBits (protocolOf p) = p := by decide

theorem decodeP_ok {opd : Byte} {f : Protocol → Instr} {j : Instr} (h : decodeP opd f = .ok j) :
    ∃ p, (protocolBits p).setWidth 8 = opd ∧ f p = j := by
  obtain ⟨hhigh, hj⟩ := check_ok h
  exact ⟨_, by rw [protocolBits_protocolOf, setWidth_lowBits rfl hhigh], hj⟩

theorem decodeP_protocolBits (p : Protocol) (f : Protocol → Instr) :
    decodeP ((protocolBits p).setWidth 8) f = .ok (f p) := by
  cases p <;> rfl

theorem decodeP_error_iff (opd : Byte) (f : Protocol → Instr) :
    (∃ e, decodeP opd f = .error e) ↔ opd.toNat / 4 ≠ 0 :=
  check_error_iff.trans (not_congr (highBits_eq_zero_iff rfl opd))

theorem decodeK_ok {opd : Byte} {f : BitVec 3 → Instr} {j : Instr} (h : decodeK opd f = .ok j) :
    ∃ k, templateOk k = true ∧ k.setWidth 8 = opd ∧ f k = j := by
  obtain ⟨⟨hhigh, hk⟩, hj⟩ := check_ok h
  exact ⟨_, hk, setWidth_lowBits rfl hhigh, hj⟩

theorem decodeK_setWidth {k : BitVec 3} (hk : templateOk k = true) (f : BitVec 3 → Instr) :
    decodeK (k.setWidth 8) f = .ok (f k) := by
  have hhigh : (k.setWidth 8).extractLsb' 3 5 = 0 :=
    (highBits_eq_zero_iff rfl _).mpr (Nat.div_eq_of_lt (by rw [BitVec.toNat_setWidth]; omega))
  have hlow : (k.setWidth 8).extractLsb' 0 3 = k := by
    rw [← BitVec.setWidth_eq_extractLsb' (by decide)]
    simp
  rw [decodeK, hhigh, hlow, if_pos ⟨rfl, hk⟩]

theorem decodeK_error_iff (opd : Byte) (f : BitVec 3 → Instr) :
    (∃ e, decodeK opd f = .error e) ↔ opd.toNat / 8 ≠ 0 ∨ 5 < opd.toNat % 8 := by
  have hhigh : opd.extractLsb' 3 5 = 0 ↔ opd.toNat / 8 = 0 := highBits_eq_zero_iff rfl opd
  have hlow : templateOk (opd.extractLsb' 0 3) = true ↔ opd.toNat % 8 ≤ 5 := by
    rw [templateOk, decide_eq_true_iff, BitVec.extractLsb'_toNat, Nat.shiftRight_zero]
  rw [decodeK, check_error_iff, hhigh, hlow, not_and_or, not_le]

/-! ### The format of an opcode (R84) -/

/-- The commands of format `Z`. -/
def commandsZ : List Instr :=
  [.nop, .crc8Init, .crc16cInit, .crc16mInit, .xorInit, .packNdtpa, .packNdtpn, .packEgts, .packNtca, .packNtcd,
    .packWlna, .packWlnd]

/-- The opcodes of format `Z`. -/
def opcodesZ : List Nat := [0x00, 0x10, 0x12, 0x14, 0x16, 0x20, 0x21, 0x22, 0x23, 0x24, 0x25, 0x26]

/-- A format `Z` command is legal, has the operand 0x00 and an opcode of the format. -/
theorem commandsZ_fields : ∀ i ∈ commandsZ, i.wellFormed = true ∧ operandOf i = 0 ∧ (opcodeOf i).toNat ∈ opcodesZ := by
  decide

/-- An opcode that is not in R84's table, by R85's ranges. -/
def unlistedOpcode (op : Nat) : Prop :=
  (0x03 ≤ op ∧ op ≤ 0x0F) ∨ (0x18 ≤ op ∧ op ≤ 0x1F) ∨ (0x27 ≤ op ∧ op ≤ 0x2F) ∨ 0x31 ≤ op

/-- `DecodedAs w d`: the word `w` has the answer `d`, by the format of its opcode. -/
inductive DecodedAs (w : Half) : Except Illegal Instr → Prop
  | formatZ {i : Instr} (hi : i ∈ commandsZ) (hop : opcodeOf i = wordOp w) : DecodedAs w (decodeZ (wordOpd w) i)
  | formatB {f : Byte → Instr} (hf : f ∈ [Instr.crc8Upd, .crc16cUpd, .crc16mUpd, .xorUpd])
      (hop : ∀ b, opcodeOf (f b) = wordOp w) : DecodedAs w (.ok (f (wordOpd w)))
  | formatP {f : Protocol → Instr} (hf : f ∈ [Instr.sessNew, .send]) (hop : ∀ p, opcodeOf (f p) = wordOp w) :
      DecodedAs w (decodeP (wordOpd w) f)
  | formatK (hop : 0x30 = wordOp w) : DecodedAs w (decodeK (wordOpd w) .ackChk)
  | unlisted (hop : unlistedOpcode (wordOp w).toNat) : DecodedAs w (.error .opcode)

/-- R84's table sorted by format: opcodes 0x01 and 0x02 have `P`, the four `UPD` have `B`, 0x30 has `K`, the other listed
ones have `Z`. -/
theorem decode_decodedAs (w : Half) : DecodedAs w (decode w) := by
  have opcode_eq {op : Byte} (h : (wordOp w).toNat = op.toNat) : op = wordOp w := BitVec.eq_of_toNat_eq h.symm
  unfold decode
  split
  case h_2 h | h_3 h => exact .formatP (by simp) fun _ => opcode_eq h
  case h_5 h | h_7 h | h_9 h | h_11 h => exact .formatB (by simp) fun _ => opcode_eq h
  case h_19 h => exact .formatK (opcode_eq h)
  case h_20 =>
    simp only [imp_false] at *
    exact .unlisted (by unfold unlistedOpcode; omega)
  all_goals
    next h => exact .formatZ (by decide) (opcode_eq h)

/-! ### Decoding and encoding (R84, R86) -/

/-- A word is accepted only with the two fields of the command it decodes to. -/
theorem DecodedAs.fields {w : Half} {d : Except Illegal Instr} (hd : DecodedAs w d) {i : Instr} (h : d = .ok i) :
    i.wellFormed = true ∧ opcodeOf i = wordOp w ∧ operandOf i = wordOpd w := by
  cases hd with
  | formatZ hi hop =>
    obtain ⟨h0, rfl⟩ := decodeZ_ok h
    obtain ⟨hwf, hopd, -⟩ := commandsZ_fields _ hi
    exact ⟨hwf, hop, hopd.trans h0.symm⟩
  | @formatB f hf hop =>
    have hfmt (b : Byte) : (f b).wellFormed = true ∧ operandOf (f b) = b := by fin_cases hf <;> exact ⟨rfl, rfl⟩
    obtain ⟨hwf, hopd⟩ := hfmt (wordOpd w)
    exact Except.ok.inj h ▸ ⟨hwf, hop _, hopd⟩
  | @formatP f hf hop =>
    have hfmt (p : Protocol) : (f p).wellFormed = true ∧ operandOf (f p) = (protocolBits p).setWidth 8 := by
      fin_cases hf <;> exact ⟨rfl, rfl⟩
    obtain ⟨p, hp, rfl⟩ := decodeP_ok h
    obtain ⟨hwf, hopd⟩ := hfmt p
    exact ⟨hwf, hop p, hopd.trans hp⟩
  | formatK hop =>
    obtain ⟨k, hk, hopd, rfl⟩ := decodeK_ok h
    exact ⟨hk, hop, hopd⟩
  | unlisted => cases h

/-- An accepted word is the encoding of the command it decodes to. -/
theorem encode_of_decode {w : Half} {i : Instr} (h : decode w = .ok i) : i.wellFormed = true ∧ encode i = w := by
  obtain ⟨hwf, hop, hopd⟩ := (decode_decodedAs w).fields h
  exact ⟨hwf, encode_eq_of_fields hop hopd⟩

/-- The word of a well-formed command decodes to it. -/
theorem decode_encode {i : Instr} (hwf : i.wellFormed = true) : decode (encode i) = .ok i := by
  obtain ⟨hop, hopd⟩ := encoding_fields i
  unfold decode
  rw [hop, hopd]
  cases i with
  | sessNew p | send p => exact decodeP_protocolBits p _
  | ackChk k => exact decodeK_setWidth hwf _
  | _ => rfl

/-- Settles O1: each direction is one half of the inverse. -/
theorem decodeAndEncodeAgree : Obligations.DecodeAndEncodeAgree := by
  intro w i
  constructor
  · exact encode_of_decode
  · rintro ⟨hwf, rfl⟩
    exact decode_encode hwf

/-! ### Illegal words (R85) -/

/-- R85's list of the illegal words, by opcode and operand. -/
def illegalFields (op opd : Nat) : Prop :=
  unlistedOpcode op ∨ (op ∈ opcodesZ ∧ opd ≠ 0) ∨ (op ∈ [0x01, 0x02] ∧ opd / 4 ≠ 0) ∨
    (op = 0x30 ∧ (opd / 8 ≠ 0 ∨ 5 < opd % 8))

theorem illegalFields_of_formatZ {op : Nat} (h : op ∈ opcodesZ) (opd : Nat) : illegalFields op opd ↔ opd ≠ 0 := by
  unfold opcodesZ at h
  fin_cases h <;> simp [illegalFields, unlistedOpcode, opcodesZ]

/-- A word is refused exactly where R85 lists its fields: format `B` refuses none. -/
theorem DecodedAs.error_iff {w : Half} {d : Except Illegal Instr} (hd : DecodedAs w d) :
    (∃ e, d = .error e) ↔ illegalFields (wordOp w).toNat (wordOpd w).toNat := by
  cases hd with
  | formatZ hi hop =>
    obtain ⟨-, -, hz⟩ := commandsZ_fields _ hi
    rw [decodeZ_error_iff, illegalFields_of_formatZ (hop ▸ hz)]
  | formatB hf hop =>
    rw [← hop 0]
    fin_cases hf <;> simp [illegalFields, unlistedOpcode, opcodesZ, opcodeOf]
  | formatP hf hop =>
    rw [decodeP_error_iff, ← hop .ndtp]
    fin_cases hf <;> simp [illegalFields, unlistedOpcode, opcodesZ, opcodeOf]
  | formatK hop =>
    rw [decodeK_error_iff, ← hop]
    simp [illegalFields, unlistedOpcode, opcodesZ]
  | unlisted hop =>
    exact iff_of_true ⟨_, rfl⟩ (.inl hop)

/-- Which words are illegal, by their bits 15..8 and 7..0. -/
theorem decode_error_iff (w : Half) : (∃ e, decode w = .error e) ↔ illegalFields (w.toNat / 256) (w.toNat % 256) := by
  rw [← toNat_wordOp, ← toNat_wordOpd]
  exact (decode_decodedAs w).error_iff

/-- On an idle block the `finish` of an illegal word writes `CODE` alone. -/
theorem illegalWord_idle {s : State} (hb : busy s = false) : illegalWord s = { s with code := .illegal } := by
  rw [illegalWord, finish, ← (busy_eq_false_iff s).mp hb]

/-- Settles O3: the words by the format of their opcode; the step by the idle block's `finish`. -/
theorem illegalWordsWriteOnlyTheCode : Obligations.IllegalWordsWriteOnlyTheCode := by
  intro w
  refine ⟨?_, ?_⟩
  · have hlow : w.toNat % 256 % 8 = w.toNat % 8 := Nat.mod_mod_of_dvd _ (by decide)
    simp only [decode_error_iff, illegalFields, unlistedOpcode, opcodesZ, or_assoc, hlow]
  · rintro s v rest ⟨e, hd⟩ rfl hb he
    have hb' : busy { s with events := rest } = false := busy_events s rest ▸ hb
    rw [step_hostWrite he, hostWrite_cmd_idle hb', runWord_illegal hd, illegalWord_idle hb']

/-! ### The listed words (95_test_vectors.md §5) -/

/-- Settles O2: a legal word is the encoding of its command; an illegal one fails the check of its format. -/
theorem listedWordsDecode : Obligations.ListedWordsDecode := by
  have legal {w : Half} {i : Instr} (hwf : i.wellFormed = true) (h : encode i = w) : decode w = .ok i :=
    (decodeAndEncodeAgree w i).mpr ⟨hwf, h⟩
  refine ⟨legal rfl rfl, legal rfl rfl, legal rfl rfl, legal rfl rfl, legal rfl rfl, legal rfl rfl, legal rfl rfl, ?_⟩
  exact ⟨rfl, rfl, rfl, rfl, rfl, rfl⟩

end Sys2Proof.Machine
end

section
/-! SUPPORT. The checksum unit (R100 to R113): its eight commands on an idle block, the two shift registers where nothing
is fed back, the residues, and the span of a generator between two of its `INIT` commands. -/

namespace Sys2Proof.Machine

/-! ### The commands on an idle block (R105 to R112) -/

/-- On an idle block `finish` writes `CODE` alone. -/
theorem finish_idle {s : State} (hb : busy s = false) (c : Code) : finish c s = { s with code := c } := by
  rw [finish, ← (busy_eq_false_iff s).mp hb]

/-- Settles O17: each command's assignment, then `finish` on an idle block. -/
theorem checksumInitsLoadInitialValues : Obligations.ChecksumInitsLoadInitialValues := by
  refine ⟨⟨?_, ?_, ?_, ?_⟩, fun s hb => ⟨?_, ?_, ?_, ?_⟩⟩
  · exact decode_encode (i := .crc8Init) rfl
  · exact decode_encode (i := .crc16cInit) rfl
  · exact decode_encode (i := .crc16mInit) rfl
  · exact decode_encode (i := .xorInit) rfl
  · exact congrArg _ (finish_idle (s := { s with crc8Acc := 0xFF }) hb .ok)
  · exact congrArg _ (finish_idle (s := { s with crc16cAcc := 0xFFFF }) hb .ok)
  · exact congrArg _ (finish_idle (s := { s with crc16mAcc := 0xFFFF }) hb .ok)
  · exact congrArg _ (finish_idle (s := { s with xorAcc := 0x00 }) hb .ok)

/-- R100's test of bit 7 is the test of the sign bit. -/
theorem crc8Bit_eq : crc8Bit = fun c => if c.getLsbD 7 then (c <<< 1) ^^^ 0x31 else c <<< 1 := by
  funext c
  rw [crc8Bit, BitVec.msb_eq_getLsbD_last]

/-- R101's test of bit 15 is the test of the sign bit. -/
theorem crc16cBit_eq : crc16cBit = fun c => if c.getLsbD 15 then (c <<< 1) ^^^ 0x1021 else c <<< 1 := by
  funext c
  rw [crc16cBit, BitVec.msb_eq_getLsbD_last]

/-- Settles O18: the one-byte steps with their loops written out, the encodings, and the examples by evaluation. -/
theorem checksumUpdatesFoldOneByte : Obligations.ChecksumUpdatesFoldOneByte := by
  refine ⟨fun s b hb => ⟨?_, ?_, ?_, ?_⟩, fun b => ⟨?_, ?_, ?_, ?_⟩, ?_⟩
  · rw [← crc8Bit_eq]
    exact congrArg _ (finish_idle (s := { s with crc8Acc := crc8Step s.crc8Acc b }) hb .ok)
  · rw [← crc16cBit_eq]
    exact congrArg _ (finish_idle (s := { s with crc16cAcc := crc16cStep s.crc16cAcc b }) hb .ok)
  · exact congrArg _ (finish_idle (s := { s with crc16mAcc := crc16mStep s.crc16mAcc b }) hb .ok)
  · exact congrArg _ (finish_idle (s := { s with xorAcc := s.xorAcc ^^^ b }) hb .ok)
  · exact decode_encode (i := .crc8Upd b) rfl
  · exact decode_encode (i := .crc16cUpd b) rfl
  · exact decode_encode (i := .crc16mUpd b) rfl
  · exact decode_encode (i := .xorUpd b) rfl
  · decide +kernel

/-! ### Folding a string (R100 to R104) -/

theorem crc8_append (a b : List Byte) : crc8 (a ++ b) = b.foldl crc8Step (crc8 a) := List.foldl_append

theorem crc16c_append (a b : List Byte) : crc16c (a ++ b) = b.foldl crc16cStep (crc16c a) := List.foldl_append

theorem crc16m_append (a b : List Byte) : crc16m (a ++ b) = b.foldl crc16mStep (crc16m a) := List.foldl_append

/-- XOR is associative with unit 0, so the value of the first part comes out of the fold. -/
theorem xor8_append (a b : List Byte) : xor8 (a ++ b) = xor8 a ^^^ xor8 b := by
  calc xor8 (a ++ b)
    _ = b.foldl (· ^^^ ·) (xor8 a) := List.foldl_append
    _ = b.foldl (· ^^^ ·) (xor8 a ^^^ 0x00) := congrArg (b.foldl (· ^^^ ·)) BitVec.xor_zero.symm
    _ = xor8 a ^^^ xor8 b := List.foldl_assoc

/-- Settles O21: each function is a left fold, and that of `xor8` is over a commutative operation. -/
theorem checksumFoldLaws : Obligations.ChecksumFoldLaws :=
  ⟨rfl, rfl, rfl, rfl, fun a b => ⟨crc8_append a b, crc16c_append a b, crc16m_append a b, xor8_append a b⟩,
    fun _ _ h => h.foldl_eq _⟩

/-! ### Residues (R104) -/

/-- While the bits it shifts out are 0, the CRC16/CCITT-FALSE register feeds nothing back. -/
theorem crc16cBit_iterate {k : Nat} {c : Half} (h : ∀ i < k, c.getMsbD i = false) : crc16cBit^[k] c = c <<< k := by
  induction k with
  | zero => simp
  | succ k ih =>
    have hmsb : (c <<< k).msb = false := by
      rw [BitVec.msb, BitVec.getMsbD_shiftLeft, Nat.zero_add]
      exact h k k.lt_succ_self
    rw [Function.iterate_succ_apply', ih fun i hi => h i (Nat.lt_succ_of_lt hi), crc16cBit, hmsb,
      if_neg Bool.false_ne_true, ← BitVec.shiftLeft_add]

/-- While the bits it shifts out are 0, the CRC16/MODBUS register feeds nothing back. -/
theorem crc16mBit_iterate {k : Nat} {c : Half} (h : ∀ i < k, c.getLsbD i = false) : crc16mBit^[k] c = c >>> k := by
  induction k with
  | zero => simp
  | succ k ih =>
    have hlsb : (c >>> k).getLsbD 0 = false := by
      rw [BitVec.getLsbD_ushiftRight]
      exact h k k.lt_succ_self
    rw [Function.iterate_succ_apply', ih fun i hi => h i (Nat.lt_succ_of_lt hi), crc16mBit, hlsb,
      if_neg Bool.false_ne_true, ← BitVec.shiftRight_add]

theorem crc8Step_self (c : Byte) : crc8Step c c = 0x00 := by
  rw [crc8Step, BitVec.xor_self]
  exact Function.iterate_fixed rfl 8

theorem crc16cStep_highByte_only (b : Byte) : crc16cStep (b.setWidth 16 <<< 8) b = 0x0000 := by
  rw [crc16cStep, BitVec.xor_self]
  exact Function.iterate_fixed rfl 8

theorem crc16mStep_lowByte_only (b : Byte) : crc16mStep (b.setWidth 16) b = 0x0000 := by
  rw [crc16mStep, BitVec.xor_self]
  exact Function.iterate_fixed rfl 8

/-- A register without its high byte is its low byte. -/
theorem xor_highByte (c : Half) : c ^^^ ((c.extractLsb' 8 8).setWidth 16 <<< 8) = (c.extractLsb' 0 8).setWidth 16 := by
  ext i hi
  by_cases h8 : i < 8
  · simp [h8, BitVec.getLsbD_eq_getElem hi]
  · have hi8 : i - 8 < 8 := by omega
    simp [h8, hi8, Nat.add_sub_cancel' (Nat.le_of_not_lt h8), BitVec.getLsbD_eq_getElem hi]

/-- A register without its low byte is its high byte. -/
theorem xor_lowByte (c : Half) : c ^^^ (c.extractLsb' 0 8).setWidth 16 = (c.extractLsb' 8 8).setWidth 16 <<< 8 := by
  rw [← xor_highByte, ← BitVec.xor_assoc, BitVec.xor_self, BitVec.zero_xor]

/-- Folding the register's own high byte clears it; the low byte is moved up. -/
theorem crc16cStep_ownHighByte (c : Half) :
    crc16cStep c (c.extractLsb' 8 8) = (c.extractLsb' 0 8).setWidth 16 <<< 8 := by
  rw [crc16cStep, xor_highByte]
  refine crc16cBit_iterate fun i hi => ?_
  rw [BitVec.getMsbD_setWidth, decide_eq_false (by omega), Bool.false_and]

/-- Folding the register's own low byte clears it; the high byte is moved down. -/
theorem crc16mStep_ownLowByte (c : Half) : crc16mStep c (c.extractLsb' 0 8) = (c.extractLsb' 8 8).setWidth 16 := by
  have hback (b : Byte) : b.setWidth 16 <<< 8 >>> 8 = b.setWidth 16 := by bv_omega
  rw [crc16mStep, xor_lowByte, crc16mBit_iterate fun i hi => by simp [hi], hback]

/-- Settles O20: the checksum's bytes, in the order its register shifts, cancel the register one after the other. -/
theorem checksumResidues : Obligations.ChecksumResidues := by
  refine fun s => ⟨?_, ?_, ?_, ?_⟩
  · rw [crc8_append]
    exact crc8Step_self (crc8 s)
  · rw [crc16c_append, be16, List.foldl_cons, crc16cStep_ownHighByte]
    exact crc16cStep_highByte_only _
  · rw [crc16m_append, le16, List.foldl_cons, crc16mStep_ownLowByte]
    exact crc16mStep_lowByte_only _
  · rw [xor8_append]
    exact (congrArg _ BitVec.zero_xor).trans BitVec.xor_self

/-! ### The span of a generator (R113) -/

/-- A generator as R113 names it: its two commands, its accumulator, the initial value and what one byte does. -/
structure Generator (α : Type) where
  /-- `G.INIT`. -/
  init : Instr
  /-- `G.UPD b`. -/
  upd : Byte → Instr
  /-- `G_ACC`. -/
  acc : State → α
  /-- The value that `G.INIT` loads. -/
  start : α
  /-- What `G.UPD b` makes of the accumulator. -/
  fold : α → Byte → α

/-- CRC8 (R105, R106). -/
def crc8Generator : Generator Byte := ⟨.crc8Init, .crc8Upd, State.crc8Acc, 0xFF, crc8Step⟩
/-- CRC16/CCITT-FALSE (R107, R108). -/
def crc16cGenerator : Generator Half := ⟨.crc16cInit, .crc16cUpd, State.crc16cAcc, 0xFFFF, crc16cStep⟩
/-- CRC16/MODBUS (R109, R110). -/
def crc16mGenerator : Generator Half := ⟨.crc16mInit, .crc16mUpd, State.crc16mAcc, 0xFFFF, crc16mStep⟩
/-- XOR (R111, R112). -/
def xorGenerator : Generator Byte := ⟨.xorInit, .xorUpd, State.xorAcc, 0x00, (· ^^^ ·)⟩

/-- What the executor does with a generator: `INIT` loads, `UPD` folds, and no other command touches the accumulator. -/
structure Generator.Lawful {α : Type} (G : Generator α) : Prop where
  exec_init (s : State) : ∃ t, exec G.init s = .next t ∧ G.acc t = G.start
  exec_upd (b : Byte) (s : State) : ∃ t, exec (G.upd b) s = .next t ∧ G.acc t = G.fold (G.acc s) b
  acc_changes {i : Instr} {s t : State} (h : exec i s = .next t) (hne : G.acc t ≠ G.acc s) :
    i = G.init ∨ ∃ b, i = G.upd b
  foldedByte_upd (b : Byte) : foldedByte G.upd (G.upd b) = some b

theorem accumulatorsOf_exec {i : Instr} {s t : State} (h : exec i s = .next t) : AccumulatorsOf i s t := by
  obtain ⟨t', ht, he⟩ := exec_effect i s
  cases ht.symm.trans h
  exact he.accumulators

theorem crc8Generator_lawful : crc8Generator.Lawful where
  exec_init _ := ⟨_, rfl, rfl⟩
  exec_upd _ _ := ⟨_, rfl, rfl⟩
  acc_changes h := have ⟨h8, _, _, _⟩ := accumulatorsOf_exec h; h8
  foldedByte_upd _ := if_pos rfl

theorem crc16cGenerator_lawful : crc16cGenerator.Lawful where
  exec_init _ := ⟨_, rfl, rfl⟩
  exec_upd _ _ := ⟨_, rfl, rfl⟩
  acc_changes h := have ⟨_, hc, _, _⟩ := accumulatorsOf_exec h; hc
  foldedByte_upd _ := if_pos rfl

theorem crc16mGenerator_lawful : crc16mGenerator.Lawful where
  exec_init _ := ⟨_, rfl, rfl⟩
  exec_upd _ _ := ⟨_, rfl, rfl⟩
  acc_changes h := have ⟨_, _, hm, _⟩ := accumulatorsOf_exec h; hm
  foldedByte_upd _ := if_pos rfl

theorem xorGenerator_lawful : xorGenerator.Lawful where
  exec_init _ := ⟨_, rfl, rfl⟩
  exec_upd _ _ := ⟨_, rfl, rfl⟩
  acc_changes h := have ⟨_, _, _, hx⟩ := accumulatorsOf_exec h; hx
  foldedByte_upd _ := if_pos rfl

theorem eq_upd_of_foldedByte {upd : Byte → Instr} {i : Instr} {b : Byte} (h : foldedByte upd i = some b) : i = upd b := by
  cases i with
  | crc8Upd c | crc16cUpd c | crc16mUpd c | xorUpd c =>
    obtain ⟨hi, hb⟩ := Option.ite_none_right_eq_some.mp h
    exact Option.some.inj hb ▸ hi
  | _ => cases h

theorem execAll_cons_next {i : Instr} {s t : State} (h : exec i s = .next t) (is : List Instr) :
    execAll (i :: is) s = execAll is t := by
  rw [execAll, h]

section Span

variable {α : Type} {G : Generator α}

/-- A command that folds nothing and is not `INIT` leaves the accumulator. -/
theorem Generator.Lawful.acc_kept (hG : G.Lawful) {i : Instr} {s t : State} (h : exec i s = .next t) (hi : i ≠ G.init)
    (hf : foldedByte G.upd i = none) : G.acc t = G.acc s := by
  by_contra hne
  rcases hG.acc_changes h hne with rfl | ⟨b, rfl⟩
  · exact hi rfl
  · rw [hG.foldedByte_upd] at hf
    cases hf

/-- Without a second `INIT`, the run folds the listed `UPD` bytes onto the accumulator it starts from. -/
theorem Generator.Lawful.execAll_folds (hG : G.Lawful) {is : List Instr} (h : G.init ∉ is) (s : State) :
    ∃ t, execAll is s = .next t ∧ G.acc t = (is.filterMap (foldedByte G.upd)).foldl G.fold (G.acc s) := by
  induction is generalizing s with
  | nil => exact ⟨s, rfl, rfl⟩
  | cons i is ih =>
    obtain ⟨hi, his⟩ := List.ne_and_not_mem_of_not_mem_cons h
    cases hf : foldedByte G.upd i with
    | none =>
      obtain ⟨t, ht, -⟩ := exec_effect i s
      rw [execAll_cons_next ht, List.filterMap_cons_none hf, ← hG.acc_kept ht (hi.symm) hf]
      exact ih his t
    | some b =>
      obtain rfl := eq_upd_of_foldedByte hf
      obtain ⟨t, ht, hacc⟩ := hG.exec_upd b s
      rw [execAll_cons_next ht, List.filterMap_cons_some hf, List.foldl_cons, ← hacc]
      exact ih his t

/-- R113: after `INIT` the accumulator is the fold of the bytes since, from the initial value. -/
theorem Generator.Lawful.span (hG : G.Lawful) {is : List Instr} (h : G.init ∉ is) (s : State) :
    ∃ t, execAll (G.init :: is) s = .next t ∧ G.acc t = (is.filterMap (foldedByte G.upd)).foldl G.fold G.start := by
  obtain ⟨t, ht, hstart⟩ := hG.exec_init s
  rw [execAll_cons_next ht, ← hstart]
  exact hG.execAll_folds h t

end Span

/-- Settles O19: the span law of a generator, once for each of the four. -/
theorem spanLawOfTheGenerators : Obligations.SpanLawOfTheGenerators := fun _ s =>
  ⟨(crc8Generator_lawful.span · s), (crc16cGenerator_lawful.span · s), (crc16mGenerator_lawful.span · s),
    (xorGenerator_lawful.span · s)⟩

end Sys2Proof.Machine
end

section
/-! SUPPORT. The `PACK` commands on an idle block (R130, R302, R35): out of range they write the code alone, in range they
build the frame of their leg. -/

namespace Sys2Proof.Machine

/-- The `PACK` command that builds the frame of a leg (R84). -/
def packOf : Leg → Instr
  | .ndtpAuth => .packNdtpa
  | .ndtpNav => .packNdtpn
  | .egts => .packEgts
  | .ntcAuth => .packNtca
  | .ntcData => .packNtcd
  | .wlnAuth => .packWlna
  | .wlnData => .packWlnd

theorem exec_packOf (leg : Leg) (s : State) :
    exec (packOf leg) s = .next (if legInRange leg s then finish .ok (putFrame leg s) else finish .range s) := by
  rw [← withBuilt_legBuild leg s fun t _ => finish .ok t]
  cases leg <;> rfl

theorem exec_packOf_outOfRange {leg : Leg} {s : State} (hb : busy s = false) (h : legInRange leg s = false) :
    exec (packOf leg) s = .next { s with code := .range } := by
  rw [exec_packOf, h, ← finish_idle hb]
  rfl

theorem exec_packOf_inRange {leg : Leg} {s : State} (hb : busy s = false) (h : legInRange leg s = true) :
    exec (packOf leg) s = .next { putFrame leg s with code := .ok } := by
  rw [exec_packOf, if_pos h]
  exact congrArg _ (finish_idle (s := putFrame leg s) hb .ok)

/-- R35: the build of a leg's frame leaves it in `FRAME`, with zeros behind it, and no other byte changed. -/
theorem frameBuilt_putFrame (leg : Leg) (s : State) :
    frameBuilt s { putFrame leg s with code := .ok } (legFrame leg s) :=
  ⟨toNat_frameLen (length_legFrame_le leg s), fun _ hi => Memory.read_fill_inside s.mem _ hi,
    fun _ ha => Memory.read_fill_outside s.mem _ ha⟩

/-- Settles O35: the predicates are the stated ranges, and each pack checks its own before it writes. -/
theorem outOfRangePacksWriteOnlyTheCode : Obligations.OutOfRangePacksWriteOnlyTheCode := by
  refine fun s => ⟨decide_eq_true_iff, decide_eq_true_iff, fun hb h => ?_, fun hb h => ?_⟩
  · simp only [List.forall_mem_cons]
    exact ⟨exec_packOf_outOfRange (leg := .ndtpNav) hb h, exec_packOf_outOfRange (leg := .egts) hb h,
      exec_packOf_outOfRange (leg := .ntcData) hb h, exec_packOf_outOfRange (leg := .wlnData) hb h, nofun⟩
  · exact exec_packOf_outOfRange (leg := .ntcAuth) hb h

end Sys2Proof.Machine
end

section
/-! SUPPORT. Decimal text (R131): `dec(n)` is the digits of `n`, the most significant first. -/

namespace Sys2Proof.Machine

theorem toNat_digit {d : Nat} (h : d < 10) : (digit d).toNat = 0x30 + d := by
  rw [digit, BitVec.toNat_ofNat, Nat.mod_eq_of_lt (by omega)]

/-- With fuel for its digits, `decDigits` puts the text of `n` before `acc`. -/
theorem decDigits_eq {fuel n : Nat} (acc : List Byte) (h0 : n ≠ 0) (h : n < 2 ^ fuel) :
    decDigits fuel n acc = ((Nat.digits 10 n).map digit).reverse ++ acc := by
  induction fuel generalizing n acc with
  | zero => omega
  | succ fuel ih =>
    rw [decDigits]
    split_ifs with hn
    · simp [Nat.digits_of_lt 10 n h0 hn]
    · rw [ih _ (by omega) (by omega), Nat.digits_def' (by decide) (by omega : 0 < n)]
      simp

theorem dec_eq_digits {n : Nat} (h0 : n ≠ 0) : dec n = ((Nat.digits 10 n).map digit).reverse := by
  rw [dec, decDigits_eq [] h0 Nat.lt_log2_self, List.append_nil]

theorem dec_zero : dec 0 = [0x30] := rfl

/-- The characters of `dec(n)` are digits. -/
theorem mem_dec {n : Nat} {b : Byte} (h : b ∈ dec n) : ∃ d < 10, b = digit d := by
  by_cases h0 : n = 0
  · subst h0
    exact ⟨0, by decide, List.mem_singleton.mp h⟩
  · rw [dec_eq_digits h0, List.mem_reverse, List.mem_map] at h
    obtain ⟨d, hd, rfl⟩ := h
    exact ⟨d, Nat.digits_lt_base (by decide) hd, rfl⟩

/-- The first character of `dec(n)` is the last of the digits, which are listed from the least significant on. -/
theorem head?_dec_ne {n : Nat} (h0 : n ≠ 0) : (dec n).head? ≠ some 0x30 := by
  have hne : Nat.digits 10 n ≠ [] := Nat.digits_ne_nil_iff_ne_zero.mpr h0
  have hlt := Nat.digits_lt_base (by decide : 1 < 10) (List.getLast_mem hne)
  rw [dec_eq_digits h0, List.head?_reverse, List.getLast?_map, List.getLast?_eq_some_getLast hne]
  intro h
  have hzero := congrArg BitVec.toNat (Option.some.inj h)
  rw [toNat_digit hlt] at hzero
  exact Nat.getLast_digit_ne_zero 10 h0 (Nat.add_left_cancel hzero)

/-- Reading the text back is Horner's rule on the digits. -/
theorem foldl_dec (n : Nat) : (dec n).foldl (fun a b => 10 * a + (b.toNat - 0x30)) 0 = n := by
  by_cases h0 : n = 0
  · subst h0
    rfl
  · calc (dec n).foldl (fun a b => 10 * a + (b.toNat - 0x30)) 0
      _ = (Nat.digits 10 n).foldr (fun d a => 10 * a + ((digit d).toNat - 0x30)) 0 := by
        rw [dec_eq_digits h0, List.foldl_reverse, List.foldr_map]
      _ = (Nat.digits 10 n).foldr (fun d a => d + 10 * a) 0 := by
        refine List.foldr_ext _ _ _ fun d hd a => ?_
        rw [toNat_digit (Nat.digits_lt_base (by decide) hd)]
        omega
      _ = n := by
        have := Nat.ofDigits_digits 10 n
        rwa [Nat.ofDigits_eq_foldr] at this

theorem dec_ne_nil (n : Nat) : dec n ≠ [] := by
  by_cases h0 : n = 0
  · subst h0
    nofun
  · simpa [dec_eq_digits h0] using Nat.digits_ne_nil_iff_ne_zero.mpr h0

/-- Settles O38: the digits of `Nat.digits`, and the lengths. -/
theorem decimalTextIsTheNumber : Obligations.DecimalTextIsTheNumber := by
  refine ⟨fun n => ⟨fun b hb => ?_, head?_dec_ne, foldl_dec n, fun h => ⟨?_, ?_⟩⟩, dec_zero, fun n w hw h => ⟨?_, ?_⟩⟩
  · obtain ⟨d, hd, rfl⟩ := mem_dec hb
    rw [toNat_digit hd]
    omega
  · exact List.length_pos_iff.mpr (dec_ne_nil n)
  · exact length_dec_le (w := 19) (by omega)
  · obtain ⟨w, rfl⟩ := Nat.exists_eq_add_of_lt hw
    rw [Nat.zero_add] at h ⊢
    exact length_dec0 h
  · exact ⟨_, rfl⟩

end Sys2Proof.Machine
end

section
/-! SUPPORT. The calendar (R132): `civil` counts years from 1 March, so that the leap day is the last of its year. -/

namespace Sys2Proof.Machine

/-- The proleptic Gregorian leap years. -/
abbrev LeapYear (y : Nat) : Prop := y % 4 = 0 ∧ (y % 100 ≠ 0 ∨ y % 400 = 0)

/-- Days from 0000-03-01 to 1 March of year `y`. -/
def marchDays (y : Nat) : Nat := 365 * y + y / 4 - y / 100 + y / 400

/-- The calendar month of day `doy`, counted from 0, of a year from 1 March: five months of these have 153 days. -/
def marchMonth (doy : Nat) : Nat := if (5 * doy + 2) / 153 < 10 then (5 * doy + 2) / 153 + 3 else (5 * doy + 2) / 153 - 9

/-- The day of the month of day `doy` of a year from 1 March. -/
def marchDay (doy : Nat) : Nat := doy - (153 * ((5 * doy + 2) / 153) + 2) / 5 + 1

/-- The days of a common year before month `m`. -/
def daysBeforeMonth (m : Nat) : Nat := [0, 31, 59, 90, 120, 151, 181, 212, 243, 273, 304, 334].getD (m - 1) 0

/-- The days of month `m` in a common year. -/
def monthDays (m : Nat) : Nat := [31, 28, 31, 30, 31, 30, 31, 31, 30, 31, 30, 31].getD (m - 1) 0

/-! ### Years -/

/-- The days of 100, of 4 and of 1 year, counted off one after the other: a day of the 400-year era lies in century `c`,
in four-year cycle `q` of it, and in year `r` of that, of which it is day `d`. -/
theorem era_day_split {doe : Nat} (h : doe < 146097) :
    ∃ c q r d, c < 4 ∧ q < 25 ∧ r < 4 ∧ doe = 36524 * c + 1461 * q + 365 * r + d ∧
      (d < 365 ∨ d = 365 ∧ r = 3 ∧ (q < 24 ∨ c = 3)) := by
  obtain ⟨c, a, hc, ha, hca⟩ : ∃ c a, c < 4 ∧ (a < 36524 ∨ a = 36524 ∧ c = 3) ∧ doe = 36524 * c + a :=
    ⟨(doe - doe / 146096) / 36524, doe - 36524 * ((doe - doe / 146096) / 36524), by omega, by omega, by omega⟩
  obtain ⟨r, d, hr, hd, hrd⟩ : ∃ r d, r < 4 ∧ (d < 365 ∨ d = 365 ∧ r = 3) ∧ a % 1461 = 365 * r + d :=
    ⟨(a % 1461 - a % 1461 / 1460) / 365, a % 1461 - 365 * ((a % 1461 - a % 1461 / 1460) / 365), by omega, by omega,
      by omega⟩
  exact ⟨c, a / 1461, r, d, hc, by omega, hr, by omega, by omega⟩

/-- R132's year of the era is the one in which its day lies. -/
theorem yearOfEra_eq {c q r d doe : Nat} (hc : c < 4) (hq : q < 25) (hr : r < 4)
    (hdoe : doe = 36524 * c + 1461 * q + 365 * r + d) (hd : d < 365 ∨ d = 365 ∧ r = 3 ∧ (q < 24 ∨ c = 3)) :
    (doe - doe / 1460 + doe / 36524 - doe / 146096) / 365 = 100 * c + 4 * q + r := by
  have h1460 : doe / 1460 = 25 * c + q + (24 * c + q + 365 * r + d) / 1460 := by omega
  have hlast : doe / 36524 = c + doe / 146096 := by
    rcases (by omega : 1461 * q + 365 * r + d < 36524 ∨ doe = 146096 ∧ c = 3) with h | ⟨rfl, rfl⟩
    · rw [(by omega : doe / 36524 = c), (by omega : doe / 146096 = 0), Nat.add_zero]
    · rfl
  omega

/-- The days of the years before year `100c + 4q + r` of its era. -/
theorem daysBeforeYear_eq {c q r : Nat} (hq : q < 25) (hr : r < 4) :
    365 * (100 * c + 4 * q + r) + (100 * c + 4 * q + r) / 4 - (100 * c + 4 * q + r) / 100 =
      36524 * c + 1461 * q + 365 * r := by
  rw [(by omega : (100 * c + 4 * q + r) / 4 = 25 * c + q), (by omega : (100 * c + 4 * q + r) / 100 = c)]
  omega

theorem marchDays_add_eras (y era : Nat) : marchDays (y + era * 400) = marchDays y + 146097 * era := by
  unfold marchDays
  rw [(by omega : (y + era * 400) / 4 = y / 4 + 100 * era), (by omega : (y + era * 400) / 100 = y / 100 + 4 * era),
    (by omega : (y + era * 400) / 400 = y / 400 + era)]
  omega

/-- A year from 1 March that has a 366th day, day 365 from 0, ends in a leap year. -/
theorem leapYear_of_lastDay {c q : Nat} (hq : q < 25) (h : q < 24 ∨ c = 3) (era : Nat) :
    LeapYear (100 * c + 4 * q + 3 + era * 400 + 1) := by
  refine ⟨by omega, ?_⟩
  by_cases h24 : q < 24
  · rw [(by omega : (100 * c + 4 * q + 3 + era * 400 + 1) % 100 = 4 * q + 4)]
    exact .inl (Nat.succ_ne_zero _)
  · obtain rfl := h.resolve_left h24
    exact .inr (by omega)

/-- R132's era, year of the era and day of the year, for day `z` since 0000-03-01. -/
theorem marchDate_of_day {z era doe : Nat} (hera : era = z / 146097) (hdoe : doe = z - era * 146097) : ∃ yoe doy,
    (doe - doe / 1460 + doe / 36524 - doe / 146096) / 365 = yoe ∧ doe - (365 * yoe + yoe / 4 - yoe / 100) = doy ∧
    marchDays (yoe + era * 400) + doy = z ∧ (doy < 365 ∨ doy = 365 ∧ LeapYear (yoe + era * 400 + 1)) := by
  obtain ⟨c, q, r, d, hc, hq, hr, hsplit, hd⟩ := era_day_split (doe := doe) (by omega)
  refine ⟨100 * c + 4 * q + r, d, yearOfEra_eq hc hq hr hsplit hd, ?_, ?_, hd.imp_right ?_⟩
  · rw [daysBeforeYear_eq hq hr]
    omega
  · rw [marchDays_add_eras, marchDays, daysBeforeYear_eq hq hr, (by omega : (100 * c + 4 * q + r) / 400 = 0)]
    omega
  · rintro ⟨h365, rfl, h⟩
    exact ⟨h365, leapYear_of_lastDay hq h era⟩

/-- The date of `t`, by the year from 1 March in which it lies and the day of that year. -/
theorem civil_eq_march (t : Word) : ∃ y doy,
    marchDays y + doy = t.toNat / 86400 + 719468 ∧ (doy < 365 ∨ doy = 365 ∧ LeapYear (y + 1)) ∧
    (civil t).year = y + (if (civil t).month ≤ 2 then 1 else 0) ∧ (civil t).month = marchMonth doy ∧
    (civil t).day = marchDay doy := by
  obtain ⟨yoe, doy, hyoe, hdoy, hdays, hleap⟩ := marchDate_of_day (z := t.toNat / 86400 + 719468) rfl rfl
  refine ⟨_, doy, hdays, hleap, ?_⟩
  simp only [civil, hyoe, hdoy, marchMonth, marchDay, and_self]

/-! ### Months -/

/-- The twelve months from 1 March against the tables of the calendar year; only the last can have a leap day. -/
theorem marchMonth_table {doy : Nat} (h : doy ≤ 365) :
    1 ≤ marchMonth doy ∧ marchMonth doy ≤ 12 ∧ 1 ≤ marchDay doy ∧
    (marchDay doy ≤ monthDays (marchMonth doy) ∨ doy = 365 ∧ marchMonth doy = 2 ∧ marchDay doy = 29) ∧
    (2 < marchMonth doy ∧ doy < 306 ∧ daysBeforeMonth (marchMonth doy) + (marchDay doy - 1) = doy + 59 ∨
      marchMonth doy ≤ 2 ∧ daysBeforeMonth (marchMonth doy) + (marchDay doy - 1) + 306 = doy) := by
  simp only [marchMonth, marchDay]
  generalize hmp : (5 * doy + 2) / 153 = mp
  have hle : mp ≤ 11 := by omega
  interval_cases mp <;> simp [daysBeforeMonth, monthDays] <;> omega

/-! ### The time of day -/

theorem civil_time (t : Word) :
    (civil t).hour < 24 ∧ (civil t).minute < 60 ∧ (civil t).second < 60 ∧
    t.toNat % 86400 = 3600 * (civil t).hour + 60 * (civil t).minute + (civil t).second := by
  simp only [civil]
  omega

/-! ### Calendar years -/

/-- Days from 1970-01-01 to 1 January of year `y`; 477 leap years lie before 1970. -/
def januaryDays (y : Nat) : Nat := 365 * (y - 1970) + ((y - 1) / 4 - (y - 1) / 100 + (y - 1) / 400 - 477)

/-- 1 January of year `y + 1` is 306 days after 1 March of year `y`. -/
theorem januaryDays_succ {y : Nat} (hy : 1969 ≤ y) : januaryDays (y + 1) + 719468 = marchDays y + 306 := by
  unfold marchDays januaryDays
  simp only [Nat.add_sub_cancel]
  omega

/-- A year from 1 March ends with the leap day of the next calendar year. -/
theorem marchDays_succ (y : Nat) :
    marchDays (y + 1) = marchDays y + 365 + (if LeapYear (y + 1) then 1 else 0) := by
  have h100 : (y + 1) % 100 = 0 → (y + 1) % 4 = 0 := by omega
  have h400 : (y + 1) % 400 = 0 → (y + 1) % 100 = 0 := by omega
  have hle : y / 100 ≤ y / 4 := by omega
  unfold marchDays LeapYear
  rw [Nat.succ_div (a := y) (b := 4), Nat.succ_div (a := y) (b := 100), Nat.succ_div (a := y) (b := 400)]
  simp only [Nat.dvd_iff_mod_eq_zero]
  generalize (y + 1) % 4 = r4, (y + 1) % 100 = r100, (y + 1) % 400 = r400, y / 4 = q4, y / 100 = q100 at *
  split_ifs <;> omega

theorem marchDays_mono : Monotone marchDays :=
  monotone_nat_of_le_succ fun y => by rw [marchDays_succ]; omega

/-- A 32-bit `t` ends in February 2106, and begins 306 days after 1 March 1969. -/
theorem marchYear_range {y doy n : Nat} (hn : n < 2 ^ 32) (hdays : marchDays y + doy = n / 86400 + 719468)
    (hdoy : doy ≤ 365) : (1970 ≤ y ∨ y = 1969 ∧ 306 ≤ doy) ∧ y ≤ 2105 := by
  have h1968 : y ≤ 1968 → marchDays y ≤ 718797 := fun h => (marchDays_mono h).trans_eq rfl
  have h1969 : y = 1969 → marchDays y = 719162 := fun h => h ▸ rfl
  have h2106 : 2106 ≤ y → 769200 ≤ marchDays y := fun h => (marchDays_mono h).trans_eq' rfl
  omega

/-- 1 March is day 59 of its calendar year, counted from 0, and day 60 in a leap year. -/
theorem marchDays_eq {y : Nat} (hy : 1970 ≤ y) :
    marchDays y = januaryDays y + 59 + (if LeapYear y then 1 else 0) + 719468 := by
  obtain ⟨y, rfl⟩ : ∃ x, y = x + 1 := ⟨y - 1, by omega⟩
  have := januaryDays_succ (y := y) (by omega)
  rw [marchDays_succ]
  omega

/-- The calendar year of a date: it begins 306 days after 1 March of the year before. -/
theorem days_of_march {y doy n : Nat} (hdays : marchDays y + doy = n + 719468)
    (hrange : 1970 ≤ y ∨ y = 1969 ∧ 306 ≤ doy) (hdoy : doy < 365 ∨ doy = 365 ∧ LeapYear (y + 1)) {year : Nat}
    (hyear : year = y + (if marchMonth doy ≤ 2 then 1 else 0)) :
    1970 ≤ year ∧ 1 ≤ marchMonth doy ∧ marchMonth doy ≤ 12 ∧ 1 ≤ marchDay doy ∧
    marchDay doy ≤ monthDays (marchMonth doy) + (if marchMonth doy = 2 ∧ LeapYear year then 1 else 0) ∧
    n = januaryDays year + daysBeforeMonth (marchMonth doy) + (if 2 < marchMonth doy ∧ LeapYear year then 1 else 0) +
      (marchDay doy - 1) := by
  obtain ⟨hm1, hm12, hd1, hlen, hbefore⟩ := marchMonth_table (doy := doy) (by omega)
  rcases hbefore with ⟨hm, hlt, hbefore⟩ | ⟨hm, hbefore⟩
  · rw [if_neg (by omega), Nat.add_zero] at hyear
    subst hyear
    have := marchDays_eq (y := year) (by omega)
    have hlen : marchDay doy ≤ monthDays (marchMonth doy) := by omega
    simp only [hm, true_and]
    omega
  · rw [if_pos hm] at hyear
    subst hyear
    have := januaryDays_succ (y := y) (by omega)
    rw [if_neg (c := 2 < marchMonth doy ∧ _) (by omega)]
    refine ⟨by omega, hm1, hm12, hd1, ?_, by omega⟩
    rcases hlen with hlen | ⟨h365, h2, h29⟩
    · exact hlen.trans (Nat.le_add_right _ _)
    · have hleap : LeapYear (y + 1) := (hdoy.resolve_left (by omega)).2
      rw [if_pos ⟨h2, hleap⟩, h2, h29]
      decide

/-- Settles O39: the year from 1 March holds the day, and the months before it are in the table; January and February
belong to the next calendar year. -/
theorem civilDateIsTheDateOfTheInstant : Obligations.CivilDateIsTheDateOfTheInstant := by
  intro t
  obtain ⟨y, doy, hdays, hdoy, hyear, hmonth, hday⟩ := civil_eq_march t
  obtain ⟨hrange, hy⟩ := marchYear_range t.isLt hdays (by omega)
  rw [hmonth] at hyear
  obtain ⟨hy1970, hm1, hm12, hd1, hlen, hcount⟩ := days_of_march hdays hrange hdoy rfl
  refine ⟨_, _, _, hyear, hmonth, hday, hy1970, ?_, hm1, hm12, hd1, hlen, hcount, civil_time t⟩
  split <;> omega

end Sys2Proof.Machine
end

section
/-! SUPPORT. The coordinate encoders of EGTS (R137) and Navtelecom (R138). -/

namespace Sys2Proof.Machine

/-! ### The EGTS fraction (R137) -/

/-- The quotient of a magnitude within the limit fits a u32. -/
theorem toNat_egtsFrac {v : Word} {d : Nat} (h : v.toInt.natAbs ≤ d) :
    (egtsFrac v d).toNat = v.toInt.natAbs * 0xFFFFFFFF / d := by
  have hle : v.toInt.natAbs * 0xFFFFFFFF / d ≤ 0xFFFFFFFF :=
    Nat.div_le_of_le_mul (Nat.mul_le_mul_right _ h)
  rw [egtsFrac, BitVec.toNat_ofNat, Nat.mod_eq_of_lt (by omega)]

theorem egtsFrac_limit {v : Word} {d : Nat} (hd : 0 < d) (h : v.toInt.natAbs = d) : egtsFrac v d = 0xFFFFFFFF := by
  rw [egtsFrac, h, Nat.mul_div_cancel_left _ hd]
  rfl

theorem egtsFrac_zero (d : Nat) : egtsFrac 0 d = 0 := by
  simp [egtsFrac]

/-- Settles O40: the fraction is the quotient itself, with no wrap. -/
theorem egtsFractionIsTheFloor : Obligations.EgtsFractionIsTheFloor := by
  intro v d hd hv
  have hpos : 0 < d := by omega
  refine ⟨?_, ?_, egtsFrac_limit hpos, fun h => by rw [h, egtsFrac_zero]⟩
  · rw [toNat_egtsFrac hv]
    exact Nat.div_mul_le_self _ _
  · rw [toNat_egtsFrac hv]
    exact (Nat.div_lt_iff_lt_mul hpos).mp (Nat.lt_add_one _)

/-! ### Rounding (R138) -/

/-- The rounded quotient is within half a unit of the exact one, and even at exactly half a unit. -/
theorem roundHalfEven_spec (num : Nat) {den : Nat} (hd : 0 < den) :
    2 * ((roundHalfEven num den * den : Nat) - (num : Int)).natAbs ≤ den ∧
    (2 * ((roundHalfEven num den * den : Nat) - (num : Int)).natAbs = den → roundHalfEven num den % 2 = 0) := by
  have hnum := Nat.div_add_mod' num den
  have hr := Nat.mod_lt num hd
  unfold roundHalfEven
  generalize num / den = q, num % den = r at *
  dsimp only
  split_ifs <;> push_cast [← hnum, add_mul, one_mul] <;> omega

/-- A quotient between two numbers is rounded between them. -/
theorem roundHalfEven_mem {num den a b : Nat} (hd : 0 < den) (ha : a * den ≤ num) (hb : num < b * den) :
    a ≤ roundHalfEven num den ∧ roundHalfEven num den ≤ b := by
  have hqa : a ≤ num / den := (Nat.le_div_iff_mul_le hd).mpr ha
  have hqb : num / den < b := (Nat.div_lt_iff_lt_mul hd).mpr hb
  unfold roundHalfEven
  dsimp only
  split_ifs <;> omega

/-! ### The fields of a binary32 word -/

section Fields

variable (sign : Bool) (e : BitVec 8) (m : BitVec 23)

theorem binary32_exponent : (BitVec.ofBool sign ++ e ++ m).extractLsb' 23 8 = e := by
  ext i hi
  simp only [BitVec.getElem_extractLsb', BitVec.getLsbD_append]
  rw [if_neg (by omega), if_pos (by omega), Nat.add_sub_cancel_left, BitVec.getLsbD_eq_getElem hi]

theorem binary32_fraction : (BitVec.ofBool sign ++ e ++ m).extractLsb' 0 23 = m := by
  ext i hi
  simp only [BitVec.getElem_extractLsb', BitVec.getLsbD_append]
  rw [if_pos (by omega), Nat.zero_add, BitVec.getLsbD_eq_getElem hi]

theorem binary32_sign : (BitVec.ofBool sign ++ e ++ m).msb = sign := by
  rw [BitVec.msb_append, if_neg (by decide), BitVec.msb_append, if_neg (by decide), BitVec.msb_ofBool]

end Fields

/-! ### The value of `f32` (R138) -/

theorem f32_zero : f32 0 = 0 := rfl

/-- The binary exponent of a non-zero magnitude within ±180 degrees. -/
theorem f32Exponent_bounds {n : Nat} (h0 : n ≠ 0) (h : n ≤ 1800000000) :
    2 ^ f32Exponent n * 10 ^ 7 ≤ n * 2 ^ 24 ∧ n * 2 ^ 24 < 2 ^ (f32Exponent n + 1) * 10 ^ 7 ∧ f32Exponent n < 32 := by
  have hne : n * 2 ^ 24 / 10 ^ 7 ≠ 0 := by omega
  refine ⟨?_, ?_, ?_⟩
  · exact (Nat.le_div_iff_mul_le (by decide)).mp (Nat.log2_self_le hne)
  · exact (Nat.div_lt_iff_lt_mul (by decide)).mp Nat.lt_log2_self
  · exact (Nat.log2_lt hne).mpr (by omega)

/-- The magnitude scaled by its exponent, in units of the last place times 10^-7. -/
def f32Scaled (n : Nat) : Nat := n * 2 ^ (47 - f32Exponent n)

theorem f32Significand_eq (n : Nat) : f32Significand n = roundHalfEven (f32Scaled n) (10 ^ 7) := rfl

theorem f32Scaled_mul {n : Nat} (h : f32Exponent n < 32) : f32Scaled n * 2 ^ f32Exponent n = n * 2 ^ 47 := by
  rw [f32Scaled, Nat.mul_assoc, ← Nat.pow_add, Nat.sub_add_cancel (by omega)]

/-- The scaled magnitude has 24 bits before the point. -/
theorem f32Scaled_bounds {n : Nat} (h0 : n ≠ 0) (h : n ≤ 1800000000) :
    2 ^ 23 * 10 ^ 7 ≤ f32Scaled n ∧ f32Scaled n < 2 ^ 24 * 10 ^ 7 := by
  obtain ⟨hlo, hhi, hlt⟩ := f32Exponent_bounds h0 h
  have hmul := f32Scaled_mul hlt
  rw [Nat.pow_succ] at hhi
  constructor
  · refine Nat.le_of_mul_le_mul_right ?_ (Nat.two_pow_pos (f32Exponent n))
    omega
  · refine Nat.lt_of_mul_lt_mul_right (a := 2 ^ f32Exponent n) ?_
    omega

/-- The magnitude in units of the exponent's last place, over 10^7. -/
theorem magnitude_eq_scaled {n : Nat} (h : f32Exponent n < 32) : n * 2 ^ 150 = f32Scaled n * 2 ^ (f32Exponent n + 103) := by
  rw [Nat.pow_add, ← Nat.mul_assoc, f32Scaled_mul h]
  omega

/-- The binary32 number of exponent field `e` and fraction `m` is the one nearest to `x`·10^-7·2^-150, in the terms of
the statement: the float below a power of two is only half a unit away, and the fraction at a tie is even. -/
def NearestFloat (x e m : Nat) : Prop :=
  2 * (((2 ^ 23 + m) * (2 ^ e * 10 ^ 7) : Nat) - (x : Int)).natAbs ≤ 2 ^ e * 10 ^ 7 ∧
  (m = 0 → x < (2 ^ 23 + m) * (2 ^ e * 10 ^ 7) → 4 * ((2 ^ 23 + m) * (2 ^ e * 10 ^ 7) - x) ≤ 2 ^ e * 10 ^ 7) ∧
  (2 * (((2 ^ 23 + m) * (2 ^ e * 10 ^ 7) : Nat) - (x : Int)).natAbs = 2 ^ e * 10 ^ 7 → m % 2 = 0)

/-- A common factor comes out of a distance. -/
theorem natAbs_sub_scaled (p a w : Nat) :
    (((p * 10 ^ 7 * w : Nat) : Int) - (a * w : Nat)).natAbs = ((p * 10 ^ 7 : Nat) - (a : Int)).natAbs * w := by
  rw [Nat.cast_mul, Nat.cast_mul a w, ← Int.sub_mul, Int.natAbs_mul, Int.natAbs_natCast]

theorem nearestFloat_of_round {a e m : Nat} (ha : 2 ^ 23 * 10 ^ 7 ≤ a) (hm : roundHalfEven a (10 ^ 7) = 2 ^ 23 + m) :
    NearestFloat (a * 2 ^ e) e m := by
  obtain ⟨hnear, htie⟩ := roundHalfEven_spec a (by decide : 0 < 10 ^ 7)
  rw [hm] at hnear htie
  have hw := Nat.two_pow_pos e
  rw [NearestFloat, Nat.mul_comm (2 ^ e), ← Nat.mul_assoc, natAbs_sub_scaled, ← Nat.mul_assoc]
  refine ⟨Nat.mul_le_mul_right _ hnear, fun h0 hlt => ?_, fun h => ?_⟩
  · subst h0
    exact absurd (Nat.lt_of_mul_lt_mul_right hlt) (by omega)
  · have := htie (Nat.eq_of_mul_eq_mul_right hw h)
    omega

/-- Rounding up to 2^24 moves to the next exponent, whose unit is twice as large. -/
theorem nearestFloat_of_carry {a e : Nat} (hm : roundHalfEven a (10 ^ 7) = 2 ^ 24) : NearestFloat (a * 2 ^ e) (e + 1) 0 := by
  obtain ⟨hnear, -⟩ := roundHalfEven_spec a (by decide : 0 < 10 ^ 7)
  rw [hm] at hnear
  have hy : (2 ^ 23 + 0) * (2 ^ (e + 1) * 10 ^ 7) = 2 ^ 24 * 10 ^ 7 * 2 ^ e := by
    rw [Nat.pow_succ]
    omega
  have hu : 2 ^ (e + 1) * 10 ^ 7 = 2 * (10 ^ 7 * 2 ^ e) := by
    rw [Nat.pow_succ]
    omega
  have hscaled := natAbs_sub_scaled (2 ^ 24) a (2 ^ e)
  have hle := Nat.mul_le_mul_right (2 ^ e) hnear
  rw [Nat.mul_assoc, ← hscaled] at hle
  rw [NearestFloat, hy, hu]
  refine ⟨by omega, fun _ hlt => by omega, fun _ => rfl⟩

/-- The word of a non-zero magnitude: the rounded significand without its leading bit, or the carry into the exponent. -/
theorem f32_fields {v : Word} (h0 : v.toInt.natAbs ≠ 0) (h : v.toInt.natAbs ≤ 1800000000) :
    ∃ e m, f32 v = BitVec.ofBool v.msb ++ BitVec.ofNat 8 e ++ BitVec.ofNat 23 m ∧ 1 ≤ e ∧ e ≤ 254 ∧ m < 2 ^ 23 ∧
      NearestFloat (v.toInt.natAbs * 2 ^ 150) e m := by
  obtain ⟨-, -, hexp⟩ := f32Exponent_bounds h0 h
  obtain ⟨hlo, hhi⟩ := f32Scaled_bounds h0 h
  obtain ⟨hmlo, hmhi⟩ := roundHalfEven_mem (by decide) hlo hhi
  rw [magnitude_eq_scaled hexp]
  unfold f32
  dsimp only
  rw [if_neg h0, f32Significand_eq]
  split_ifs with hcarry
  · exact ⟨_, 0, rfl, by omega, by omega, by decide, nearestFloat_of_carry hcarry⟩
  · exact ⟨_, _, rfl, by omega, by omega, by omega, nearestFloat_of_round hlo (by omega)⟩

/-- Settles O41: the fields of the word, and the rounded significand as the nearest float. -/
theorem binary32IsCorrectlyRounded : Obligations.Binary32IsCorrectlyRounded := by
  refine ⟨f32_zero, fun v hv h => ?_⟩
  have h0 : v.toInt.natAbs ≠ 0 := by
    rwa [Int.natAbs_ne_zero, ne_eq, ← BitVec.toInt_zero (w := 32), BitVec.toInt_inj]
  obtain ⟨e, m, hf, he1, he254, hm, hnear⟩ := f32_fields h0 h
  obtain ⟨hhalf, hquarter, htie⟩ := hnear
  refine ⟨e, m, _, _, _, ?_, ?_, rfl, rfl, rfl, ?_, he1, he254, hhalf, hquarter, htie⟩
  · rw [hf, binary32_exponent, BitVec.toNat_ofNat, Nat.mod_eq_of_lt (by omega)]
  · rw [hf, binary32_fraction, BitVec.toNat_ofNat, Nat.mod_eq_of_lt hm]
  · rw [hf, binary32_sign, BitVec.msb_eq_toInt]

end Sys2Proof.Machine
end

section
/-! SUPPORT. The Navtelecom data body (R133, R202): what an overlay puts in place, and the fields at their offsets. -/

namespace Sys2Proof.Machine

/-! ### Overlays (R202) -/

section Overlay

variable {b x : List Byte} {off : Nat}

theorem slice_overlay_same (h : off ≤ b.length) : slice (overlay b off x) off (off + x.length) = x := by
  have hlen : (b.take off).length = off := List.length_take_of_le h
  rw [slice, overlay, List.append_assoc, List.drop_left' hlen, Nat.add_sub_cancel_left, List.take_left' rfl]

theorem getElem?_overlay_outside (h : off + x.length ≤ b.length) {i : Nat} (hi : i < off ∨ off + x.length ≤ i) :
    (overlay b off x)[i]? = b[i]? := by
  have hlen : (b.take off).length = off := List.length_take_of_le (by omega)
  rw [overlay, List.append_assoc]
  rcases hi with hi | hi
  · rw [List.getElem?_append_left (by omega), List.getElem?_take, if_pos hi]
  · rw [List.getElem?_append_right (by omega), List.getElem?_append_right (by omega), List.getElem?_drop, hlen]
    congr 1
    omega

theorem getD_overlay_outside (h : off + x.length ≤ b.length) {i : Nat} (hi : i < off ∨ off + x.length ≤ i) :
    (overlay b off x).getD i 0 = b.getD i 0 := by
  rw [List.getD_eq_getElem?_getD, getElem?_overlay_outside h hi, List.getD_eq_getElem?_getD]

theorem slice_overlay_outside (h : off + x.length ≤ b.length) {i j : Nat} (hij : j ≤ off ∨ off + x.length ≤ i) :
    slice (overlay b off x) i j = slice b i j := by
  refine List.ext_getElem? fun k => ?_
  simp only [slice, List.getElem?_take, List.getElem?_drop]
  split_ifs with hk
  · exact getElem?_overlay_outside h (by omega)
  · rfl

end Overlay

/-! ### The time block (R133) -/

/-- The year byte: the low byte of the difference, also before the year 2000. -/
theorem ntcTs_eq (t : Word) : ntcTs t =
    [BitVec.ofNat 8 (civil t).hour, BitVec.ofNat 8 (civil t).minute, BitVec.ofNat 8 (civil t).second,
      BitVec.ofNat 8 (civil t).day, BitVec.ofNat 8 (civil t).month,
      BitVec.ofNat 8 ((((civil t).year : Int) - 2000) % 256).toNat] := by
  have hyear (y : Int) : BitVec.ofInt 8 y = BitVec.ofNat 8 (y % 256).toNat := by
    refine BitVec.eq_of_toNat_eq ?_
    rw [BitVec.toNat_ofInt, BitVec.toNat_ofNat, Nat.mod_eq_of_lt (by omega)]
    rfl
  rw [ntcTs, hyear]

/-! ### The body -/

/-- R8: the four fields lie behind the record number, inside the body, and apart from each other. -/
theorem ntcLayout_apart (L : NtcLayout) :
    (9 ≤ L.ts1 ∧ 9 ≤ L.ts2 ∧ 9 ≤ L.lat ∧ 9 ≤ L.lon) ∧
    (L.ts1 + 6 ≤ L.ts2 ∨ L.ts2 + 6 ≤ L.ts1) ∧ (L.ts1 + 6 ≤ L.lat ∨ L.lat + 4 ≤ L.ts1) ∧
    (L.ts1 + 6 ≤ L.lon ∨ L.lon + 4 ≤ L.ts1) ∧ (L.ts2 + 6 ≤ L.lat ∨ L.lat + 4 ≤ L.ts2) ∧
    (L.ts2 + 6 ≤ L.lon ∨ L.lon + 4 ≤ L.ts2) ∧ (L.lat + 4 ≤ L.lon ∨ L.lon + 4 ≤ L.lat) := by
  have h := L.ok
  simp only [ntcLayoutOk, fieldsApart, Bool.and_eq_true, Bool.or_eq_true, decide_eq_true_eq] at h
  obtain ⟨⟨⟨⟨⟨⟨⟨⟨⟨⟨h1, -⟩, h2, -⟩, h3, -⟩, h4, -⟩, h12⟩, h13⟩, h14⟩, h23⟩, h24⟩, h34⟩ := h
  exact ⟨⟨h1, h2, h3, h4⟩, h12, h13, h14, h23, h24, h34⟩

/-- The body before its four fields are put in place. -/
def ntcBlankBody (P : Params) (s : State) : List Byte := P.ntcDataTag.toList ++ le16 2 ++ be32 s.ntcRn ++ zeros 66

theorem length_ntcBlankBody (P : Params) (s : State) : (ntcBlankBody P s).length = 75 := by
  simp [ntcBlankBody]

theorem slice_ntcBlankBody (P : Params) (s : State) :
    slice (ntcBlankBody P s) 0 9 = P.ntcDataTag.toList ++ [0x02, 0x00] ++ be32 s.ntcRn :=
  List.take_left' (by simp)

theorem getD_ntcBlankBody (P : Params) (s : State) {i : Nat} (h : 9 ≤ i) : (ntcBlankBody P s).getD i 0 = 0 := by
  have hlen : (P.ntcDataTag.toList ++ le16 2 ++ be32 s.ntcRn).length = 9 := by simp
  rw [ntcBlankBody, List.getD_append_right _ _ _ _ (by omega), zeros, List.getD_eq_getElem?_getD,
    List.getElem?_getD_replicate_default_eq]

/-- The body as four overlays of the blank one. -/
theorem ntcDataBody_eq (P : Params) (s : State) : ntcDataBody P s =
    overlay (overlay (overlay (overlay (ntcBlankBody P s) P.ntcLayout.ts1 (ntcTs s.time)) P.ntcLayout.ts2 (ntcTs s.time))
      P.ntcLayout.lat (be32 (f32 s.lat))) P.ntcLayout.lon (be32 (f32 s.lon)) := rfl

/-- The offsets inside one of the body's four fields (R8). -/
def NtcLayout.covers (L : NtcLayout) (i : Nat) : Prop :=
  (L.ts1 ≤ i ∧ i < L.ts1 + 6) ∨ (L.ts2 ≤ i ∧ i < L.ts2 + 6) ∨ (L.lat ≤ i ∧ i < L.lat + 4) ∨ (L.lon ≤ i ∧ i < L.lon + 4)

/-- R202: what the body holds at the offsets of the layout `L`, around the tag and the record number `r`. -/
structure NtcBodyHolds (L : NtcLayout) (b r ts lat lon : List Byte) : Prop where
  number : slice b 0 9 = r
  ts1 : slice b L.ts1 (L.ts1 + 6) = ts
  ts2 : slice b L.ts2 (L.ts2 + 6) = ts
  lat : slice b L.lat (L.lat + 4) = lat
  lon : slice b L.lon (L.lon + 4) = lon
  blank : ∀ i, 9 ≤ i → ¬ NtcLayout.covers L i → b.getD i 0 = 0

/-- No field is overwritten by a later one, whatever offsets R8 allows. -/
theorem ntcDataBody_holds (P : Params) (s : State) :
    NtcBodyHolds P.ntcLayout (ntcDataBody P s) (P.ntcDataTag.toList ++ [0x02, 0x00] ++ be32 s.ntcRn) (ntcTs s.time)
      (be32 (f32 s.lat)) (be32 (f32 s.lon)) := by
  obtain ⟨h1, h2, h3, h4⟩ := ntcLayout_inside P.ntcLayout
  obtain ⟨⟨hn1, hn2, hn3, hn4⟩, h12, h13, h14, h23, h24, h34⟩ := ntcLayout_apart P.ntcLayout
  have hts : (ntcTs s.time).length = 6 := rfl
  have hlat : (be32 (f32 s.lat)).length = 4 := rfl
  have hlon : (be32 (f32 s.lon)).length = 4 := rfl
  have hl0 := length_ntcBlankBody P s
  have hl1 := length_overlay (x := ntcTs s.time) hl0 h1
  have hl2 := length_overlay (x := ntcTs s.time) hl1 h2
  have hl3 := length_overlay (x := be32 (f32 s.lat)) hl2 h3
  rw [ntcDataBody_eq]
  constructor
  case number =>
    rw [slice_overlay_outside (by omega) (by omega), slice_overlay_outside (by omega) (by omega),
      slice_overlay_outside (by omega) (by omega), slice_overlay_outside (by omega) (by omega), slice_ntcBlankBody]
  case ts1 =>
    rw [slice_overlay_outside (by omega) (by omega), slice_overlay_outside (by omega) (by omega),
      slice_overlay_outside (by omega) (by omega)]
    exact slice_overlay_same (by omega)
  case ts2 =>
    rw [slice_overlay_outside (by omega) (by omega), slice_overlay_outside (by omega) (by omega)]
    exact slice_overlay_same (by omega)
  case lat =>
    rw [slice_overlay_outside (by omega) (by omega)]
    exact slice_overlay_same (by omega)
  case lon => exact slice_overlay_same (by omega)
  case blank =>
    intro i hi hc
    unfold NtcLayout.covers at hc
    rw [getD_overlay_outside (by omega) (by omega), getD_overlay_outside (by omega) (by omega),
      getD_overlay_outside (by omega) (by omega), getD_overlay_outside (by omega) (by omega), getD_ntcBlankBody P s hi]

/-- R200: the header of the data frame. -/
theorem ntcDataFrame_eq (P : Params) (s : State) :
    ntcDataFrame P s =
      (P.ntcSig.toList ++ [0x01, 0x00, 0x00, 0x00] ++ [0x00, 0x00, 0x00, 0x00] ++ [0x4B, 0x00] ++
        [xor8 (ntcDataBody P s)]) ++
      [xor8 (P.ntcSig.toList ++ [0x01, 0x00, 0x00, 0x00] ++ [0x00, 0x00, 0x00, 0x00] ++ [0x4B, 0x00] ++
        [xor8 (ntcDataBody P s)])] ++ ntcDataBody P s := by
  rw [ntcDataFrame, ntcHdr, ntcHdr15, length_ntcDataBody]
  rfl

/-- Settles O32: the body's fields at their offsets, the header, and the build of a leg's frame. -/
theorem packNavtelecomDataBuildsTheFrame : Obligations.PackNavtelecomDataBuildsTheFrame := by
  refine ⟨decode_encode (i := .packNtcd) rfl, fun s hb h => exec_packOf_outOfRange (leg := .ntcData) hb h,
    fun s hb h => ?_⟩
  obtain ⟨hnumber, hts1, hts2, hlat, hlon, hblank⟩ := ntcDataBody_holds Config.params s
  rw [ntcTs_eq] at hts1 hts2
  refine ⟨_, ntcDataFrame Config.params s, ntcDataBody Config.params s, _, _,
    exec_packOf_inRange (leg := .ntcData) hb h, rfl, rfl, ntcDataFrame_eq _ s, length_ntcDataFrame _ s,
    length_ntcDataBody _ s, hnumber, hts1, hts2, hlat, hlon, fun i h9 _ hi1 hi2 hi3 hi4 => hblank i h9 ?_, rfl,
    frameBuilt_putFrame .ntcData s, rfl⟩
  rintro (hi | hi | hi | hi)
  exacts [hi1 hi, hi2 hi, hi3 hi, hi4 hi]

end Sys2Proof.Machine
end

section
/-! SUPPORT. The Wialon data line (R134, R139, R221): every field has its width, so the line has 56 bytes. -/

namespace Sys2Proof.Machine

/-- R132: every field of a date and time has at most two digits, but the year. -/
theorem civil_twoDigits (t : Word) : (civil t).day < 10 ^ 2 ∧ (civil t).month < 10 ^ 2 := by
  obtain ⟨y, doy, -, hdoy, -, hmonth, hday⟩ := civil_eq_march t
  rw [hmonth, hday, marchMonth, marchDay]
  exact ⟨by omega, by split <;> omega⟩

theorem length_wlnDate (t : Word) : (wlnDate t).length = 6 := by
  obtain ⟨hd, hm⟩ := civil_twoDigits t
  have hy : (civil t).year % 100 < 10 ^ 2 := Nat.mod_lt _ (by decide)
  rw [wlnDate, List.length_append, List.length_append, length_dec0 hd, length_dec0 hm, length_dec0 hy]

theorem length_wlnTime (t : Word) : (wlnTime t).length = 6 := by
  obtain ⟨hh, hm, hs⟩ := civil_time_lt t
  rw [wlnTime, List.length_append, List.length_append, length_dec0 hh, length_dec0 hm, length_dec0 hs]

/-- R139: |v|·100 degrees in units of 10^-4, rounded half up. -/
def wlnUnits (v : Word) : Nat := (v.toInt.natAbs + 5) / 10

/-- The padding of the whole text is the padding of the digits before the point. -/
theorem wfield_eq (v : Word) (w : Nat) :
    wfield v (w + 5) = dec0 (wlnUnits v / 10000) w ++ [0x2E] ++ dec0 (wlnUnits v % 10000) 4 := by
  have hfrac : (dec0 (wlnUnits v % 10000) 4).length = 4 := length_dec0 (Nat.mod_lt _ (by decide))
  have hpad : w + 5 - (dec (wlnUnits v / 10000) ++ ascii ['.'] ++ dec0 (wlnUnits v % 10000) 4).length =
      w - (dec (wlnUnits v / 10000)).length := by
    rw [List.length_append, List.length_append, hfrac, length_ascii, List.length_singleton]
    omega
  calc wfield v (w + 5)
    _ = List.replicate (w - (dec (wlnUnits v / 10000)).length) (digit 0) ++
          (dec (wlnUnits v / 10000) ++ [0x2E] ++ dec0 (wlnUnits v % 10000) 4) := by
      rw [← hpad]
      rfl
    _ = dec0 (wlnUnits v / 10000) w ++ [0x2E] ++ dec0 (wlnUnits v % 10000) 4 := by
      simp only [dec0, List.append_assoc]

theorem length_wfield {v : Word} {w : Nat} (h : wlnUnits v / 10000 < 10 ^ (w + 1)) :
    (wfield v (w + 6)).length = w + 6 := by
  have hfrac : (dec0 (wlnUnits v % 10000) 4).length = 4 := length_dec0 (Nat.mod_lt _ (by decide))
  rw [wfield_eq v (w + 1), List.length_append, List.length_append, length_dec0 h, hfrac, List.length_singleton]

theorem latLetter_eq (v : Word) : latLetter v = [if 0 ≤ v.toInt then 0x4E else 0x53] := by
  unfold latLetter
  split <;> rfl

theorem lonLetter_eq (v : Word) : lonLetter v = [if 0 ≤ v.toInt then 0x45 else 0x57] := by
  unfold lonLetter
  split <;> rfl

/-- Within the ranges of R130 the degrees have 4 digits of latitude and 5 of longitude. -/
theorem wlnUnits_lt {s : State} (h : coordsOk s = true) :
    wlnUnits s.lat / 10000 < 10 ^ 4 ∧ wlnUnits s.lon / 10000 < 10 ^ 5 := by
  obtain ⟨hlat1, hlat2, hlon1, hlon2⟩ := of_decide_eq_true h
  unfold wlnUnits
  omega

theorem length_wlnDataLine {s : State} (h : coordsOk s = true) : (wlnDataLine s).length = 56 := by
  obtain ⟨hlat, hlon⟩ := wlnUnits_lt h
  simp [wlnDataLine, length_wlnDate, length_wlnTime, length_wfield (w := 3) hlat, length_wfield (w := 4) hlon]

/-- R221, with the fields written out. -/
theorem wlnDataLine_eq (s : State) : wlnDataLine s =
    [0x23, 0x53, 0x44, 0x23] ++ dec0 (civil s.time).day 2 ++ dec0 (civil s.time).month 2 ++
      dec0 ((civil s.time).year % 100) 2 ++ [0x3B] ++
      dec0 (civil s.time).hour 2 ++ dec0 (civil s.time).minute 2 ++ dec0 (civil s.time).second 2 ++ [0x3B] ++
      dec0 (wlnUnits s.lat / 10000) 4 ++ [0x2E] ++ dec0 (wlnUnits s.lat % 10000) 4 ++ [0x3B] ++
      [if 0 ≤ s.lat.toInt then 0x4E else 0x53] ++ [0x3B] ++
      dec0 (wlnUnits s.lon / 10000) 5 ++ [0x2E] ++ dec0 (wlnUnits s.lon % 10000) 4 ++ [0x3B] ++
      [if 0 ≤ s.lon.toInt then 0x45 else 0x57] ++
      [0x3B, 0x4E, 0x41, 0x3B, 0x4E, 0x41, 0x3B, 0x4E, 0x41, 0x3B, 0x4E, 0x41, 0x0D, 0x0A] := by
  rw [wlnDataLine, wfield_eq s.lat 4, wfield_eq s.lon 5, latLetter_eq, lonLetter_eq, wlnDate, wlnTime]
  simp only [List.append_assoc]
  rfl

/-- R35: a frame build changes the buffer and its length only. -/
theorem setFrame_unchanged (f : List Byte) (s : State) : { setFrame f s with code := .ok } =
    { s with
      code := .ok
      frameLen := (setFrame f s).frameLen
      mem := (setFrame f s).mem } := rfl

theorem putFrame_wlnData (s : State) : putFrame .wlnData s = setFrame (wlnDataLine s) s := by
  rw [putFrame_eq, countFrame_wlnData]
  rfl

/-- Settles O34: the line's fields and widths, and the build of a leg's frame. -/
theorem packWialonDataBuildsTheLine : Obligations.PackWialonDataBuildsTheLine := by
  refine ⟨decode_encode (i := .packWlnd) rfl, fun s hb h => exec_packOf_outOfRange (leg := .wlnData) hb h,
    fun s hb h => ?_⟩
  refine ⟨_, wlnDataLine s, civil s.time, wlnUnits s.lat, wlnUnits s.lon, exec_packOf_inRange (leg := .wlnData) hb h, rfl,
    rfl, rfl, wlnDataLine_eq s, rfl, length_wlnDataLine h, frameBuilt_putFrame .wlnData s, ?_⟩
  rw [putFrame_wlnData]
  exact setFrame_unchanged _ s

end Sys2Proof.Machine
end

section
/-! SUPPORT. The NDTP frames (R160 to R166): each layer by its bytes, the two layout tables, and the two `PACK`
commands. -/

namespace Sys2Proof.Machine

/-! ### The layers (R160, R161) -/

/-- R160: the packet id zero-extended is its two bytes and two zeros. -/
theorem le32_setWidth (v : Half) : le32 (v.setWidth 32) = le16 v ++ [0x00, 0x00] := by
  have hlow {k : Nat} (h : k + 8 ≤ 32) : (v.setWidth 32).extractLsb' k 8 = v.extractLsb' k 8 :=
    BitVec.extractLsb'_setWidth_of_le h
  have hhigh {k : Nat} (h : 16 ≤ k) : v.extractLsb' k 8 = 0x00 := by
    ext i hi
    simpa using BitVec.getLsbD_of_ge v (k + i) (by omega)
  rw [le32, hlow (by decide), hlow (by decide), hlow (by decide), hlow (by decide), hhigh (k := 16) le_rfl,
    hhigh (k := 24) (by decide)]
  rfl

theorem ndtpNph_eq (svc typ fl id : Half) (body : List Byte) :
    ndtpNph svc typ fl id body = le16 svc ++ le16 typ ++ le16 fl ++ le16 id ++ [0x00, 0x00] ++ body := by
  rw [ndtpNph, le32_setWidth, ← List.append_assoc]

@[simp] theorem length_ndtpNph (svc typ fl id : Half) (body : List Byte) :
    (ndtpNph svc typ fl id body).length = 10 + body.length := by
  simp only [ndtpNph, List.length_append, length_le16, length_le32]

@[simp] theorem length_ndtpNpl (P : Params) (id : Half) (p : List Byte) : (ndtpNpl P id p).length = 15 + p.length := by
  simp only [ndtpNpl, List.length_append, Vector.length_toList, length_le16, length_be16, length_le32,
    List.length_singleton]

/-! ### The bodies (R162, R163) -/

@[simp] theorem length_ndtpAuthBody (P : Params) (s : State) : (ndtpAuthBody P s).length = 14 := rfl

@[simp] theorem length_ndtpNavBody (s : State) : (ndtpNavBody s).length = 28 := rfl

/-- Preserved defect (a): both hemisphere bits follow the longitude, so the flags byte has two values. -/
theorem nflags_eq (lon : Word) : nflags lon = if 0 ≤ lon.toInt then 0xE0 else 0x80 := by
  unfold nflags
  split <;> rfl

/-! ### The layout tables (R165, R166) -/

/-- The NPH payload of the authentication frame (R160, R162). -/
def ndtpAuthPayload (P : Params) (s : State) : List Byte :=
  ndtpNph P.ndtpAuthSvc P.ndtpAuthType P.ndtpAuthNphf s.ndtpPid (ndtpAuthBody P s)

theorem ndtpAuthPayload_eq (P : Params) (s : State) : ndtpAuthPayload P s =
    le16 P.ndtpAuthSvc ++ le16 P.ndtpAuthType ++ le16 P.ndtpAuthNphf ++ le16 s.ndtpPid ++ [0x00, 0x00] ++
      [0x06, 0x02] ++ le16 P.ndtpAuthCaps ++ le32 s.devidLo ++ le16 P.ndtpAuthMss ++ [0x00, 0x00, 0x00, 0x00] := by
  rw [ndtpAuthPayload, ndtpNph_eq]
  rfl

theorem ndtpAuthFrame_eq (P : Params) (s : State) : ndtpAuthFrame P s =
    P.ndtpSig.toList ++ [0x18, 0x00] ++ [0x02, 0x00] ++ be16 (crc16m (ndtpAuthPayload P s)) ++ [0x01] ++
      [0x00, 0x00, 0x00, 0x00] ++ le16 s.ndtpPid ++ ndtpAuthPayload P s := by
  have hlen : (ndtpAuthPayload P s).length = 24 := by rw [ndtpAuthPayload, length_ndtpNph, length_ndtpAuthBody]
  change ndtpNpl P s.ndtpPid (ndtpAuthPayload P s) = _
  rw [ndtpNpl, hlen]
  rfl

/-- The NPH payload of the navigation-data frame (R160, R163). -/
def ndtpNavPayload (P : Params) (s : State) : List Byte :=
  ndtpNph P.ndtpNavSvc P.ndtpNavType P.ndtpNavNphf s.ndtpPid (ndtpNavBody s)

theorem ndtpNavPayload_eq (P : Params) (s : State) : ndtpNavPayload P s =
    le16 P.ndtpNavSvc ++ le16 P.ndtpNavType ++ le16 P.ndtpNavNphf ++ le16 s.ndtpPid ++ [0x00, 0x00] ++
      [0x00, 0x00] ++ le32 s.time ++ le32 (BitVec.ofNat 32 s.lon.toInt.natAbs) ++
      le32 (BitVec.ofNat 32 s.lat.toInt.natAbs) ++ [if 0 ≤ s.lon.toInt then 0xE0 else 0x80] ++
      List.replicate 13 0x00 := by
  rw [ndtpNavPayload, ndtpNph_eq, ndtpNavBody, nflags_eq]
  rfl

theorem ndtpNavFrame_eq (P : Params) (s : State) : ndtpNavFrame P s =
    P.ndtpSig.toList ++ [0x26, 0x00] ++ [0x02, 0x00] ++ be16 (crc16m (ndtpNavPayload P s)) ++ [0x01] ++
      [0x00, 0x00, 0x00, 0x00] ++ le16 s.ndtpPid ++ ndtpNavPayload P s := by
  have hlen : (ndtpNavPayload P s).length = 38 := by rw [ndtpNavPayload, length_ndtpNph, length_ndtpNavBody]
  change ndtpNpl P s.ndtpPid (ndtpNavPayload P s) = _
  rw [ndtpNpl, hlen]
  rfl

/-! ### The commands (R165, R166) -/

/-- Settles O28: the payload and the frame by their tables, and the build of a leg's frame. -/
theorem packNdtpAuthBuildsTheFrame : Obligations.PackNdtpAuthBuildsTheFrame := by
  refine ⟨decode_encode (i := .packNdtpa) rfl, fun s hb => ?_⟩
  exact ⟨_, ndtpAuthFrame Config.params s, ndtpAuthPayload Config.params s,
    exec_packOf_inRange (leg := .ndtpAuth) hb rfl, ndtpAuthPayload_eq _ s, ndtpAuthFrame_eq _ s, rfl,
    length_ndtpAuthFrame _ s, frameBuilt_putFrame .ndtpAuth s, rfl⟩

/-- Settles O29: the payload and the frame by their tables, and both outcomes of the build of a leg's frame. -/
theorem packNdtpNavBuildsTheFrame : Obligations.PackNdtpNavBuildsTheFrame := by
  refine ⟨decode_encode (i := .packNdtpn) rfl, fun s hb h => exec_packOf_outOfRange (leg := .ndtpNav) hb h,
    fun s hb h => ?_⟩
  exact ⟨_, ndtpNavFrame Config.params s, ndtpNavPayload Config.params s,
    exec_packOf_inRange (leg := .ndtpNav) hb h, ndtpNavPayload_eq _ s, ndtpNavFrame_eq _ s, rfl,
    length_ndtpNavFrame _ s, frameBuilt_putFrame .ndtpNav s, rfl⟩

end Sys2Proof.Machine
end

section
/-! SUPPORT. What a packer answers (R164, R184, R203, R223): the frame of its leg, in range, and so of its length. -/

namespace Sys2Proof.Machine

/-- A build that answers was in range, and its frame is the one of its leg. -/
theorem legBuild_eq_some {leg : Leg} {s t : State} {f : List Byte} (h : legBuild leg s = some (t, f)) :
    legInRange leg s = true ∧ f = legFrame leg s := by
  cases hr : legInRange leg s with
  | false =>
    rw [legBuild_outOfRange hr] at h
    cases h
  | true =>
    rw [legBuild_inRange hr] at h
    cases h
    exact ⟨rfl, rfl⟩

/-! ### Lengths (R203, R220) -/

/-- Under `devid15_ok` the device id has 15 characters. -/
theorem length_ntcAuthFrame (P : Params) {s : State} (h : devid15Ok s = true) : (ntcAuthFrame P s).length = 35 := by
  have hdev : (dev15 s).length = 15 := length_dec0 (of_decide_eq_true h)
  rw [ntcAuthFrame, List.length_append, length_ntcHdr, ntcAuthBody, List.length_append, hdev, Vector.length_toList]

/-- The decimal device id is not empty. -/
theorem le_length_wlnAuthLine (s : State) : 9 ≤ (wlnAuthLine s).length := by
  have hdev : 0 < (devdec s).length := List.length_pos_iff.mpr (dec_ne_nil _)
  simp only [wlnAuthLine, List.length_append, length_ascii, List.length_cons, List.length_nil]
  omega

/-- Settles O37: the frame of each leg in its range, and the length of that frame. -/
theorem frameLengths : Obligations.FrameLengths := by
  refine fun s t f => ⟨fun h => ?_, fun h => ?_, fun h => ?_, fun h => ?_, fun h => ?_, fun h => ?_, fun h => ?_⟩
  · obtain ⟨-, rfl⟩ := legBuild_eq_some (leg := .ndtpAuth) h
    exact length_ndtpAuthFrame _ s
  · obtain ⟨-, rfl⟩ := legBuild_eq_some (leg := .ndtpNav) h
    exact length_ndtpNavFrame _ s
  · obtain ⟨-, rfl⟩ := legBuild_eq_some (leg := .egts) h
    exact length_egtsFrame s
  · obtain ⟨hdev, rfl⟩ := legBuild_eq_some (leg := .ntcAuth) h
    exact length_ntcAuthFrame _ hdev
  · obtain ⟨-, rfl⟩ := legBuild_eq_some (leg := .ntcData) h
    exact length_ntcDataFrame _ s
  · obtain ⟨-, rfl⟩ := legBuild_eq_some (leg := .wlnAuth) h
    exact ⟨le_length_wlnAuthLine s, length_wlnAuthLine_le s⟩
  · obtain ⟨hcoords, rfl⟩ := legBuild_eq_some (leg := .wlnData) h
    exact length_wlnDataLine hcoords

end Sys2Proof.Machine
end

section
/-! SUPPORT. The lengths and checks stored in a frame (R167, R186, R204), read back from its bytes. -/

namespace Sys2Proof.Machine

/-! ### Slices of a concatenation (R11) -/

section Slice

variable {a b : List Byte} {i j : Nat}

/-- What stands behind a slice does not matter. -/
theorem slice_append_left (h : j ≤ a.length) : slice (a ++ b) i j = slice a i j := by
  have hnil : j - i - (a.drop i).length = 0 := by
    rw [List.length_drop]
    omega
  rw [slice, slice, List.drop_append, List.take_append, hnil, List.take_zero, List.append_nil]

/-- A slice behind `a` is a slice of what follows `a`. -/
theorem slice_append_right (h : a.length ≤ i) : slice (a ++ b) i j = slice b (i - a.length) (j - a.length) := by
  have hwidth : j - i = j - a.length - (i - a.length) := by omega
  rw [slice, slice, List.drop_append, List.drop_eq_nil_of_le h, List.nil_append, hwidth]

theorem slice_all (h : a.length = j) : slice a 0 j = a := List.take_of_length_le h.le

/-- The last field of a string. -/
theorem slice_append_last (hi : a.length = i) (hj : i + b.length = j) : slice (a ++ b) i j = b := by
  rw [slice_append_right hi.le, hi, Nat.sub_self, slice_all (by omega)]

end Slice

/-! ### NDTP (R160, R161, R167) -/

section Ndtp

variable (P : Params) (svc typ fl id : Half) (body p : List Byte)

/-- The length, the CRC and the id in the NPL header. -/
theorem slices_ndtpNpl :
    slice (ndtpNpl P id p) 2 4 = le16 (BitVec.ofNat 16 p.length) ∧ slice (ndtpNpl P id p) 6 8 = be16 (crc16m p) ∧
    slice (ndtpNpl P id p) 13 15 = le16 id := by
  rw [ndtpNpl]
  refine ⟨?_, ?_, ?_⟩
  all_goals simp (disch := simp) only [slice_append_left]
  all_goals exact slice_append_last (by simp) rfl

/-- Behind the 15 bytes of the NPL header stands the payload. -/
theorem slice_ndtpNpl_payload {i : Nat} (h : 15 ≤ i) (j : Nat) :
    slice (ndtpNpl P id p) i j = slice p (i - 15) (j - 15) := by
  rw [ndtpNpl, slice_append_right (by simpa using h)]
  simp

/-- The two halves of the request id in the NPH header. -/
theorem slices_ndtpNph :
    slice (ndtpNph svc typ fl id body) 6 8 = le16 id ∧ slice (ndtpNph svc typ fl id body) 8 10 = [0x00, 0x00] := by
  rw [ndtpNph_eq]
  constructor
  all_goals simp (disch := simp) only [slice_append_left]
  all_goals exact slice_append_last (by simp) rfl

end Ndtp

/-- R164: a frame of either kind is an NPH payload with the packet id, in the NPL layer with the same id. -/
theorem ndtpBuild_layers {k : FrameKind} {s t : State} {f : List Byte} (h : ndtpBuild k s = some (t, f)) :
    ∃ svc typ fl body, f = ndtpNpl Config.params s.ndtpPid (ndtpNph svc typ fl s.ndtpPid body) := by
  cases k with
  | auth =>
    obtain ⟨-, rfl⟩ := legBuild_eq_some (leg := .ndtpAuth) h
    exact ⟨_, _, _, _, rfl⟩
  | data =>
    obtain ⟨-, rfl⟩ := legBuild_eq_some (leg := .ndtpNav) h
    exact ⟨_, _, _, _, rfl⟩

/-! ### EGTS (R180, R184, R186) -/

@[simp] theorem length_egtsHdr10 (fdl id : Half) : (egtsHdr10 fdl id).length = 10 := by
  simp [egtsHdr10]

@[simp] theorem length_egtsRec (s : State) : (egtsRec s).length = 35 := by
  simp [egtsRec, egtsSr, egtsPos]

/-- R184: the ten header bytes and their CRC8, then the record and its CRC16/CCITT-FALSE. -/
theorem slices_egtsFrame (s : State) :
    slice (egtsFrame s) 0 10 = egtsHdr10 35 s.egtsPid ∧ slice (egtsFrame s) 10 11 = [crc8 (egtsHdr10 35 s.egtsPid)] ∧
    slice (egtsFrame s) 11 46 = egtsRec s ∧ slice (egtsFrame s) 46 48 = le16 (crc16c (egtsRec s)) := by
  rw [egtsFrame, egtsHdr, length_egtsRec]
  refine ⟨?_, ?_, ?_, slice_append_last (by simp) rfl⟩
  all_goals simp (disch := simp) only [slice_append_left]
  · exact slice_all rfl
  · exact slice_append_last rfl rfl
  · exact slice_append_last (by simp) rfl

/-! ### Navtelecom (R200, R203, R204) -/

section Ntc

variable (P : Params) (b : List Byte)

theorem length_ntcHdr15 : (ntcHdr15 P b).length = 15 := by
  simp only [ntcHdr15, List.length_append, Vector.length_toList, length_le32, length_le16, List.length_singleton]

theorem slice_ntcHdr15_length : slice (ntcHdr15 P b) 12 14 = le16 (BitVec.ofNat 16 b.length) := by
  rw [ntcHdr15]
  simp (disch := simp) only [slice_append_left]
  exact slice_append_last (by simp) rfl

theorem slice_ntcHdr15_bodyXor : slice (ntcHdr15 P b) 14 15 = [xor8 b] :=
  slice_append_last (by simp) rfl

/-- The last header byte cancels the XOR of the others (R104). -/
theorem xor8_ntcHdr : xor8 (ntcHdr P b) = 0x00 := by
  obtain ⟨-, -, -, hxor⟩ := checksumResidues (ntcHdr15 P b)
  exact hxor

/-- A slice of the first 15 header bytes. -/
theorem slice_ntcHdr_left {i j : Nat} (h : j ≤ 15) : slice (ntcHdr P b ++ b) i j = slice (ntcHdr15 P b) i j := by
  have hj : j ≤ (ntcHdr15 P b).length := h.trans_eq (length_ntcHdr15 P b).symm
  rw [slice_append_left ((Nat.le_succ_of_le h).trans_eq (length_ntcHdr P b).symm), ntcHdr, slice_append_left hj]

theorem slice_ntcHdr_headerXor : slice (ntcHdr P b ++ b) 15 16 = [xor8 (ntcHdr15 P b)] := by
  rw [slice_append_left (length_ntcHdr P b).ge]
  exact slice_append_last (length_ntcHdr15 P b) rfl

end Ntc

/-- R203: a frame of either kind is the header of a body and the body. -/
theorem ntcBuild_layers {k : FrameKind} {s t : State} {f : List Byte} (h : ntcBuild k s = some (t, f)) :
    ∃ b, f = ntcHdr Config.params b ++ b := by
  cases k with
  | auth =>
    obtain ⟨-, rfl⟩ := legBuild_eq_some (leg := .ntcAuth) h
    exact ⟨_, rfl⟩
  | data =>
    obtain ⟨-, rfl⟩ := legBuild_eq_some (leg := .ntcData) h
    exact ⟨_, rfl⟩

/-! ### The statement -/

/-- Settles O36: each frame by its layers, whose fields are slices of it. -/
theorem frameChecksAgreeWithTheirBytes : Obligations.FrameChecksAgreeWithTheirBytes := by
  refine ⟨fun k s t f h => ?_, fun s t f h => ?_, fun k s t f h => ?_⟩
  · obtain ⟨svc, typ, fl, body, rfl⟩ := ndtpBuild_layers h
    obtain ⟨hlen, hcrc, hid⟩ := slices_ndtpNpl Config.params s.ndtpPid (ndtpNph svc typ fl s.ndtpPid body)
    obtain ⟨hreq, hreqHigh⟩ := slices_ndtpNph svc typ fl s.ndtpPid body
    rw [hlen, hcrc, hid, slice_ndtpNpl_payload _ _ _ le_rfl, slice_ndtpNpl_payload _ _ _ (by decide),
      slice_ndtpNpl_payload _ _ _ (by decide), length_ndtpNpl, Nat.add_sub_cancel_left, slice_all rfl, hreq, hreqHigh]
    exact ⟨rfl, rfl, rfl, rfl⟩
  · obtain ⟨-, rfl⟩ := legBuild_eq_some (leg := .egts) h
    obtain ⟨hhdr, hcrc8, hrec, hcrc16⟩ := slices_egtsFrame s
    rw [legFrame, hhdr, hcrc8, hrec, hcrc16]
    exact ⟨rfl, rfl⟩
  · obtain ⟨b, rfl⟩ := ntcBuild_layers h
    have hlen : (ntcHdr Config.params b ++ b).length = 16 + b.length := by
      rw [List.length_append, length_ntcHdr]
    have hbody : slice (ntcHdr Config.params b ++ b) 16 (16 + b.length) = b := slice_append_last (length_ntcHdr _ b) rfl
    have hhdr : slice (ntcHdr Config.params b ++ b) 0 16 = ntcHdr Config.params b := by
      rw [slice_append_left (length_ntcHdr _ b).ge, slice_all (length_ntcHdr _ b)]
    rw [hlen, Nat.add_sub_cancel_left, hbody, hhdr, slice_ntcHdr_left _ _ (by decide), slice_ntcHdr15_length,
      slice_ntcHdr_left _ _ (by decide), slice_ntcHdr15_bodyXor, slice_ntcHdr_left _ _ le_rfl,
      slice_all (length_ntcHdr15 _ b), slice_ntcHdr_headerXor]
    exact ⟨rfl, rfl, rfl, xor8_ntcHdr _ b⟩

end Sys2Proof.Machine
end

section
/-! SUPPORT. The EGTS frame (R180 to R185): its fields as numbers, the header and the record by their bytes, the layout
table, and the `PACK` command. -/

namespace Sys2Proof.Machine

/-! ### The fields (R135, R182) -/

/-- R135: the difference of the two instants as an integer, which is negative before 2010, modulo 2^32. -/
theorem egtsTime_eq (t : Word) : egtsTime t = BitVec.ofInt 32 (t.toNat - 1262304000) := by
  rw [egtsTime, Int.sub_eq_add_neg, BitVec.ofInt_add, BitVec.ofInt_natCast, BitVec.ofNat_toNat, BitVec.setWidth_eq,
    BitVec.sub_eq_add_neg]
  rfl

/-- R182: the bits of the flags byte lie apart, so the byte is their sum. -/
theorem eflags_eq (lat lon : Word) : eflags lat lon =
    BitVec.ofNat 8 ((if lon.toInt < 0 then 0x40 else 0) + (if lat.toInt < 0 then 0x20 else 0) + 0x03) := by
  unfold eflags
  split
  · split <;> rfl
  · split <;> rfl

/-! ### The layout table (R185) -/

/-- R180: the header bytes under the CRC8, for the record's length of 35 bytes. -/
theorem egtsHdr10_eq (id : Half) :
    egtsHdr10 35 id = [0x01, 0x00, 0x03, 0x0B, 0x00, 0x23, 0x00] ++ le16 id ++ [0x01] := rfl

/-- R181, R183: the record bytes under the CRC16/CCITT-FALSE. -/
theorem egtsRec_eq (s : State) : egtsRec s =
    [0x18, 0x00] ++ le16 s.egtsRn ++ [0x01] ++ le32 s.devidLo ++ [0x02, 0x02, 0x10, 0x15, 0x00] ++
      le32 (BitVec.ofInt 32 (s.time.toNat - 1262304000)) ++
      le32 (BitVec.ofNat 32 (s.lat.toInt.natAbs * 0xFFFFFFFF / 900000000)) ++
      le32 (BitVec.ofNat 32 (s.lon.toInt.natAbs * 0xFFFFFFFF / 1800000000)) ++
      [BitVec.ofNat 8 ((if s.lon.toInt < 0 then 0x40 else 0) + (if s.lat.toInt < 0 then 0x20 else 0) + 0x03)] ++
      List.replicate 8 0x00 := by
  rw [egtsRec, egtsSr, egtsPos, egtsTime_eq, eflags_eq]
  rfl

/-- R180, R184: each of the two parts with its check behind it. -/
theorem egtsFrame_eq (s : State) : egtsFrame s =
    egtsHdr10 35 s.egtsPid ++ [crc8 (egtsHdr10 35 s.egtsPid)] ++ egtsRec s ++ le16 (crc16c (egtsRec s)) := by
  rw [egtsFrame, egtsHdr, length_egtsRec]
  rfl

/-! ### The command (R185) -/

/-- Settles O30: the header, the record and the frame by their table, and both outcomes of a leg's build. -/
theorem packEgtsBuildsTheFrame : Obligations.PackEgtsBuildsTheFrame := by
  refine ⟨decode_encode (i := .packEgts) rfl, fun s hb h => exec_packOf_outOfRange (leg := .egts) hb h,
    fun s hb h => ?_⟩
  exact ⟨_, egtsFrame s, egtsHdr10 35 s.egtsPid, egtsRec s, exec_packOf_inRange (leg := .egts) hb h,
    egtsHdr10_eq s.egtsPid, egtsRec_eq s, egtsFrame_eq s, rfl, length_egtsFrame s, frameBuilt_putFrame .egts s, rfl⟩

end Sys2Proof.Machine
end

section
/-! SUPPORT. The Navtelecom auth frame (R200, R201, R205): the length of its body, the header bytes of the layout table, and
the `PACK` command. -/

namespace Sys2Proof.Machine

/-- R201: the tag and, under `devid15_ok`, 15 digits. -/
theorem length_ntcAuthBody (P : Params) {s : State} (h : devid15Ok s = true) : (ntcAuthBody P s).length = 19 := by
  have hdev : (dev15 s).length = 15 := length_dec0 (of_decide_eq_true h)
  rw [ntcAuthBody, List.length_append, Vector.length_toList, hdev]

/-- R200: the header bytes under the second XOR, for a body of 19 bytes. -/
theorem ntcHdr15_of_length_19 (P : Params) {b : List Byte} (h : b.length = 19) :
    ntcHdr15 P b =
      P.ntcSig.toList ++ [0x01, 0x00, 0x00, 0x00] ++ [0x00, 0x00, 0x00, 0x00] ++ [0x13, 0x00] ++ [xor8 b] := by
  rw [ntcHdr15, h]
  rfl

theorem putFrame_ntcAuth (s : State) : putFrame .ntcAuth s = setFrame (ntcAuthFrame Config.params s) s := by
  rw [putFrame_eq, countFrame_ntcAuth]
  rfl

/-- Settles O31: the header bytes for the body's length, and both outcomes of a leg's build. -/
theorem packNavtelecomAuthBuildsTheFrame : Obligations.PackNavtelecomAuthBuildsTheFrame := by
  refine ⟨decode_encode (i := .packNtca) rfl, fun s hb h => exec_packOf_outOfRange (leg := .ntcAuth) hb h,
    fun s hb h => ?_⟩
  refine ⟨_, ntcAuthFrame Config.params s, ntcAuthBody Config.params s, ntcHdr15 Config.params (ntcAuthBody Config.params s),
    exec_packOf_inRange (leg := .ntcAuth) hb h, rfl, ntcHdr15_of_length_19 _ (length_ntcAuthBody _ h), rfl, rfl,
    length_ntcAuthFrame _ h, frameBuilt_putFrame .ntcAuth s, ?_⟩
  rw [putFrame_ntcAuth]
  exact setFrame_unchanged _ s

end Sys2Proof.Machine
end

section
/-! SUPPORT. The Wialon auth line (R220, R224): its bytes around the decimal device id, its length, and the `PACK`
command. -/

namespace Sys2Proof.Machine

/-- R220, with the ASCII codes written out. -/
theorem wlnAuthLine_eq (s : State) :
    wlnAuthLine s = [0x23, 0x4C, 0x23] ++ devdec s ++ [0x3B, 0x4E, 0x41, 0x0D, 0x0A] := rfl

/-- R220: three characters before the device id and five behind it. -/
theorem length_wlnAuthLine (s : State) : (wlnAuthLine s).length = 8 + (devdec s).length := by
  simp only [wlnAuthLine_eq, List.length_append, List.length_cons, List.length_nil]
  omega

theorem putFrame_wlnAuth (s : State) : putFrame .wlnAuth s = setFrame (wlnAuthLine s) s := by
  rw [putFrame_eq, countFrame_wlnAuth]
  rfl

/-- Settles O33: the line's bytes and length, and the build of a leg's frame, which has no range check here. -/
theorem packWialonAuthBuildsTheLine : Obligations.PackWialonAuthBuildsTheLine := by
  refine ⟨decode_encode (i := .packWlna) rfl, fun s hb => ?_⟩
  refine ⟨_, wlnAuthLine s, exec_packOf_inRange (leg := .wlnAuth) hb rfl, wlnAuthLine_eq s, length_wlnAuthLine s,
    le_length_wlnAuthLine s, length_wlnAuthLine_le s, rfl, frameBuilt_putFrame .wlnAuth s, ?_⟩
  rw [putFrame_wlnAuth]
  exact setFrame_unchanged _ s

end Sys2Proof.Machine
end

section
/-! SUPPORT. The policy table (R243) as rules over the frame in transfer, its statement, a response with one wrong byte
(R245), and a whole EGTS call (R264, R267). -/

namespace Sys2Proof.Machine

/-! ### What a response decides (R243) -/

theorem ackEq_eq_true_iff (r t : List Byte) : ackEq r t = true ↔ r = t := decide_eq_true_iff

theorem ackEq_eq_false_iff (r t : List Byte) : ackEq r t = false ↔ r ≠ t := decide_eq_false_iff_not

/-- The step that takes a response: it is stored in `RX` and judged. -/
theorem step_response {s : State} {leg : Leg} {r : Response} {rest : List Event} (hp : s.pos = .awaitRead leg)
    (he : s.events = .readAnswer (.ok r) :: rest) :
    step s = .next (afterRead leg r.bytes (storeRx r.bytes { s with events := rest })) := by
  rw [step_event he]
  simp [deliver, onReadAnswer, hp]

theorem noteResponse_diagAuth_iff (r : List Byte) (s : State) :
    (noteResponse .ndtpAuth r s).diagAuth = true ↔ s.diagAuth = true ∨ r = Config.params.ndtpNack.bytes := by
  simp [noteResponse, legTemplate, ackEq_eq_true_iff, or_comm]

theorem noteResponse_diagNav_iff (r : List Byte) (s : State) :
    (noteResponse .ndtpNav r s).diagNav = true ↔ s.diagNav = true ∨ r = Config.params.ndtpNack.bytes := by
  simp [noteResponse, legTemplate, ackEq_eq_true_iff, or_comm]

/-- How a `SEND` goes on from a response that does not end it with `E_VALIDATION`: after a handshake frame with the data
frame, after a data frame to its end. -/
def goOn : Leg → State → State
  | .ndtpAuth => sendLeg .ndtpNav
  | .ntcAuth => sendLeg .ntcData
  | .wlnAuth => sendLeg .wlnData
  | .ndtpNav | .egts | .ntcData | .wlnData => finish .ok

/-- No response to a frame of NDTP is fatal (R303); in the other protocols a match is accepted. -/
theorem afterRead_accepted {leg : Leg} {r : List Byte}
    (h : isNdtpLeg leg = true ∨ r = legTemplate Config.params leg) (s : State) :
    afterRead leg r s = goOn leg (noteResponse leg r s) := by
  cases leg with
  | ndtpAuth => rw [noteResponse_ndtpAuth]; rfl
  | ndtpNav => rw [noteResponse_ndtpNav]; rfl
  | wlnAuth =>
    have heq : ackEq r Config.wlnAuthOk = true := (ackEq_eq_true_iff _ _).mpr (h.resolve_left nofun)
    rw [noteResponse_wlnAuth heq, afterRead, if_pos heq]
    rfl
  | egts | ntcAuth | ntcData | wlnData =>
    rw [noteResponse_of_flagless (by simp)]
    exact if_pos ((ackEq_eq_true_iff _ _).mpr (h.resolve_left nofun))

/-- A mismatch is fatal in every protocol but NDTP, and sets no flag. -/
theorem afterRead_refused {leg : Leg} {r : List Byte} (hf : isNdtpLeg leg = false)
    (h : r ≠ legTemplate Config.params leg) (s : State) : afterRead leg r s = finish .validation s := by
  have hne : ¬ ackEq r (legTemplate Config.params leg) = true := by rwa [ackEq_eq_true_iff]
  cases leg with
  | ndtpAuth | ndtpNav => cases hf
  | egts | ntcAuth | ntcData | wlnAuth | wlnData => exact if_neg hne

/-- Outside NDTP the response to a data frame ends the `SEND`, and decides its result code alone. -/
theorem afterRead_data {leg : Leg} (hf : isNdtpLeg leg = false) (hd : isAuthLeg leg = false) (r : List Byte) (s : State) :
    afterRead leg r s = finish (if r = legTemplate Config.params leg then .ok else .validation) s := by
  split
  · next h =>
    rw [afterRead_accepted (.inr h)]
    cases leg with
    | egts | ntcData | wlnData => rw [noteResponse_of_flagless (by simp)]; rfl
    | ndtpAuth | ndtpNav | ntcAuth | wlnAuth => contradiction
  · next h => exact afterRead_refused hf h s

/-- In range, the frame is built and handed to the transport. -/
theorem sendLeg_inRange {leg : Leg} {s : State} (h : legInRange leg s = true) : sendLeg leg s = startLeg leg s := by
  rw [sendLeg_eq, if_pos h]

/-- With the packet in range, an accepted handshake is followed by the data frame. -/
theorem afterRead_handshake {leg data : Leg} {r : List Byte} {s : State} (hg : goOn leg = sendLeg data)
    (hd : isAuthLeg data = false) (h : isNdtpLeg leg = true ∨ r = legTemplate Config.params leg)
    (hc : coordsOk s = true) : afterRead leg r s = startLeg data (noteResponse leg r s) := by
  have hr : legInRange data (noteResponse leg r s) = true := by
    cases data with
    | ndtpNav | egts | ntcData | wlnData => exact hc
    | ndtpAuth | ntcAuth | wlnAuth => cases hd
  rw [afterRead_accepted h, hg, sendLeg_inRange hr]

/-- Settles O52: each row by whether its response is accepted, refused, or the last of its `SEND`. -/
theorem responsePolicyTable : Obligations.ResponsePolicyTable := by
  intro s leg r rest hp hc he
  have hstored : coordsOk (storeRx r.bytes { s with events := rest }) = true := hc
  refine ⟨_, step_response hp he, ?_, ?_, ?_, ?_, ?_, ?_, ?_⟩
  · rintro rfl
    rw [afterRead_handshake (data := .ndtpNav) rfl rfl (.inl rfl) hstored]
    exact ⟨noteResponse_diagAuth_iff _ _, rfl, rfl⟩
  · rintro rfl
    rw [afterRead_accepted (.inl rfl)]
    exact ⟨noteResponse_diagNav_iff _ _, rfl, rfl⟩
  · rintro rfl
    rw [afterRead_data rfl rfl]
    exact ⟨rfl, rfl⟩
  · rintro rfl
    by_cases h : r.bytes = Config.params.ntcAuthOk.bytes
    · rw [afterRead_handshake (data := .ntcData) rfl rfl (.inr h) hstored, noteResponse_of_flagless (by simp)]
      exact ⟨rfl, absurd h, fun _ => ⟨rfl, rfl, rfl⟩⟩
    · rw [afterRead_refused rfl h]
      exact ⟨rfl, fun _ => ⟨rfl, rfl, rfl⟩, fun h' => absurd h' h⟩
  · rintro rfl
    rw [afterRead_data rfl rfl]
    exact ⟨rfl, rfl⟩
  · rintro rfl
    by_cases h : r.bytes = Config.wlnAuthOk
    · rw [afterRead_handshake (data := .wlnData) rfl rfl (.inr h) hstored,
        noteResponse_wlnAuth ((ackEq_eq_true_iff _ _).mpr h)]
      exact ⟨absurd h, fun _ => ⟨rfl, rfl, rfl⟩⟩
    · rw [afterRead_refused rfl h]
      exact ⟨fun _ => ⟨rfl, rfl, rfl⟩, fun h' => absurd h' h⟩
  · rintro rfl
    rw [afterRead_data rfl rfl]
    exact ⟨rfl, rfl, rfl⟩

/-! ### One wrong byte (R245) -/

/-- Changing one byte of a template gives another byte string. -/
theorem set_ne_self {T : List Byte} {i : Nat} {b : Byte} (hi : i < T.length) (hb : b ≠ T.getD i 0) : T.set i b ≠ T := by
  intro h
  have hget : (T.set i b).getD i 0 = b := by simp [hi]
  exact hb (by rw [← hget, h])

/-- The data half of a `SEND` sets no diagnostic, and the only result code it writes is `E_RANGE`. -/
theorem sendLeg_status (leg : Leg) (s : State) :
    (sendLeg leg s).diagAuth = s.diagAuth ∧ (sendLeg leg s).diagNav = s.diagNav ∧
      ((sendLeg leg s).code = s.code ∨ (sendLeg leg s).code = .range) := by
  rw [sendLeg_eq]
  split
  · exact ⟨rfl, rfl, .inl rfl⟩
  · exact ⟨rfl, rfl, .inr rfl⟩

/-- Settles O43: a mismatch of NDTP sets no flag and goes on; any other is refused. -/
theorem oneWrongByteIsAMismatch : Obligations.OneWrongByteIsAMismatch := by
  intro s leg r rest i b hp he hi hb hr
  have hne : r.bytes ≠ legTemplate Config.params leg := hr ▸ set_ne_self hi hb
  have hack := (ackEq_eq_false_iff _ _).mpr hne
  refine ⟨hack, _, step_response hp he, fun hf => ?_, fun hn => ?_, ?_, ?_⟩
  · rw [afterRead_refused hf hne]
    exact ⟨rfl, rfl⟩
  · rw [afterRead_accepted (.inl hn), noteResponse_of_ne hack]
    cases leg with
    | ndtpAuth =>
      obtain ⟨hda, hdn, hcode⟩ := sendLeg_status .ndtpNav (storeRx r.bytes { s with events := rest })
      refine ⟨hda, hdn, fun hv => ?_⟩
      rcases hcode with hcode | hcode
      · exact hcode.symm.trans hv
      · cases hcode.symm.trans hv
    | ndtpNav => exact ⟨rfl, rfl, nofun⟩
    | egts | ntcAuth | ntcData | wlnAuth | wlnData => cases hn
  · rintro hc rfl
    have hstored : coordsOk (storeRx r.bytes { s with events := rest }) = true := hc
    rw [afterRead_handshake (data := .ndtpNav) rfl rfl (.inl rfl) hstored]
    exact ⟨rfl, rfl⟩
  · rintro - rfl
    rw [afterRead_accepted (.inl rfl)]
    exact ⟨rfl, rfl⟩

/-! ### A whole EGTS call (R244, R264, R267) -/

/-- A run goes on from the state that its first step answers. -/
theorem runSteps_succ {s t : State} (h : step s = .next t) (n : Nat) : runSteps (n + 1) s = runSteps n t := by
  rw [runSteps, h]

/-- The answers still to come play no part in the logging of a frame. -/
theorem issueRead_logFrame_events (leg : Leg) (f : List Byte) (s : State) (es es' : List Event) :
    { issueRead leg (logFrame f { s with events := es }) with events := es' } =
      { issueRead leg (logFrame f s) with events := es' } := by
  unfold logFrame
  split <;> rfl

/-- R260's `xfer` of one frame: with the write accepted and a response read, the frame is logged, the response stored
and judged. -/
theorem runSteps_xfer {s : State} {leg : Leg} {f : List Byte} {r : Response} {rest : List Event}
    (hp : s.pos = .awaitWrite leg f) (he : s.events = .writeAnswer (.ok f.length) :: .readAnswer (.ok r) :: rest)
    (n : Nat) :
    runSteps (n + 2) s =
      runSteps n (afterRead leg r.bytes (storeRx r.bytes { issueRead leg (logFrame f s) with events := rest })) := by
  have hread := step_response (s := issueRead leg (logFrame f { s with events := .readAnswer (.ok r) :: rest })) rfl
    (logFrame_events f { s with events := .readAnswer (.ok r) :: rest })
  rw [runSteps_succ (step_written hp he), runSteps_succ hread, issueRead_logFrame_events]

/-- R264: with the packet in range, `SEND EGTS` hands its frame to the transport. -/
theorem exec_sendEgts {s : State} (hc : coordsOk s = true) :
    exec (.send .egts) s = .next (startLeg .egts (prologue s)) := by
  have hr : legInRange .egts (prologue s) = true := hc
  rw [exec, execSend, sendEgts, if_pos hc, sendEgtsFrame_eq, sendLeg_inRange hr]

/-- Filling another buffer leaves the first bytes of a buffer as they were. -/
theorem Memory.bytes_fill_other (m : Memory) {base base' cap' n : Nat} (bs : List Byte)
    (h : base + 4 * n ≤ base' ∨ base' + 4 * cap' ≤ base) : (m.fill base' cap' bs).bytes base n = m.bytes base n := by
  refine List.map_congr_left fun i hi => Memory.read_fill_outside m bs ?_
  have := List.mem_range.mp hi
  omega

/-- A frame logged in `TX0` is still there after the response was stored. -/
theorem bytes_tx0_fill_rx {f : List Byte} (hf : f.length ≤ Config.frameCap) (m : Memory) (r : List Byte) :
    ((m.fill tx0Base Config.frameCap f).fill rxBase Config.rxCap r).bytes tx0Base (BitVec.ofNat 8 f.length).toNat = f := by
  obtain ⟨-, h1, h2⟩ := windows_apart
  rw [toNat_frameLen hf, Memory.bytes_fill_other _ _ (by omega), Memory.bytes_fill _ _ _ _ hf]

/-- Settles O56: the command, then the transfer of its one frame; the response alone decides the code. -/
theorem egtsSendComparesWithOneTemplate : Obligations.EgtsSendComparesWithOneTemplate := by
  intro s v r rest hb hc hv he
  have hdecode : decode (v.setWidth 16) = .ok (.send .egts) := hv ▸ decode_encode (i := .send .egts) rfl
  have hcommand := (step_hostWrite_cmd hb he hdecode).trans (exec_sendEgts hc)
  have hxfer := runSteps_xfer (leg := .egts) (f := egtsFrame s) (r := r) (rest := rest)
    (s := startLeg .egts (prologue { s with events := .writeAnswer (.ok 48) :: .readAnswer (.ok r) :: rest }))
    rfl (by rw [length_egtsFrame]; rfl) 0
  refine ⟨_, (runSteps_succ hcommand 2).trans hxfer, ?_⟩
  rw [afterRead_data rfl rfl, logFrame_first _ rfl]
  exact ⟨rfl, rfl, rfl, rfl, rfl, rfl, bytes_tx0_fill_rx (length_legFrame_le .egts s) _ _, rfl⟩

end Sys2Proof.Machine
end

section
/-! SUPPORT. `ACK.CHK k` (R240 to R242): the templates' numbers, and when the stored response has the bytes of one. -/

namespace Sys2Proof.Machine

/-- R83, R240: the numbers that name a template are the ones the decoder accepts. -/
theorem isSome_templateOf (P : Params) (k : BitVec 3) : (templateOf P k).isSome = true ↔ k.toNat ≤ 5 := by
  have hk : k.toNat ≤ 5 ↔ k = 0 ∨ k = 1 ∨ k = 2 ∨ k = 3 ∨ k = 4 ∨ k = 5 := by
    revert k
    decide
  rw [hk]
  unfold templateOf
  split_ifs <;> simp_all

/-- R240: no template is empty. -/
theorem templateOf_ne_nil {P : Params} {k : BitVec 3} {T : List Byte} (h : templateOf P k = some T) : T ≠ [] := by
  unfold templateOf at h
  split_ifs at h <;> obtain rfl := Option.some.inj h
  · exact P.ndtpNack.nonempty
  · exact P.egtsAck.nonempty
  · exact P.ntcAuthOk.nonempty
  · exact P.ntcDataOk.nonempty
  · exact List.cons_ne_nil _ _
  · exact List.cons_ne_nil _ _

/-- The first `n` bytes of a buffer are `T` exactly where they have its length and its bytes (R241). -/
theorem Memory.bytes_eq_iff (m : Memory) (base n : Nat) (T : List Byte) :
    m.bytes base n = T ↔ n = T.length ∧ ∀ i < T.length, m.read (base + 4 * i) = T.getD i 0 := by
  constructor
  · rintro rfl
    simp +contextual [Memory.bytes]
  · rintro ⟨rfl, h⟩
    exact bytes_of_bufferHolds h le_rfl

/-- R242: `ACK.CHK k` compares `RX[0..RX_LEN)` with template `k`. -/
theorem exec_ackChk_some {k : BitVec 3} {T : List Byte} (h : templateOf Config.params k = some T) {s : State}
    (hb : busy s = false) : exec (.ackChk k) s = .next { s with ackMatch := ackEq (rxBytes s) T, code := .ok } := by
  rw [exec, execAckChk, h]
  exact congrArg _ (finish_idle (s := { s with ackMatch := ackEq (rxBytes s) T }) hb .ok)

/-- A number that names no template does what an illegal word does (log entry 11). -/
theorem exec_ackChk_none {k : BitVec 3} (h : templateOf Config.params k = none) {s : State} (hb : busy s = false) :
    exec (.ackChk k) s = .next { s with code := .illegal } := by
  rw [exec, execAckChk, h]
  exact congrArg _ (illegalWord_idle hb)

/-- R80, R84: `ACK.CHK k` is the word `0x3000 + k`. -/
theorem encode_ackChk : ∀ k : BitVec 3, encode (.ackChk k) = BitVec.ofNat 16 (0x3000 + k.toNat) := by decide

/-- R83, R85: the words of the numbers 6 and 7 are refused. -/
theorem decode_encode_ackChk_illegal :
    ∀ k : BitVec 3, templateOk k = false → decode (encode (.ackChk k)) = .error .operandK := by decide

/-- Settles O42: equality of the bytes read with the template's; the words by the encoder. -/
theorem ackChkComparesByteExact : Obligations.AckChkComparesByteExact := by
  intro s k hb
  rw [← encode_ackChk]
  refine ⟨fun T hT => ⟨ackEq (rxBytes s) T, exec_ackChk_some hT hb, ?_, fun h0 => ?_⟩, fun hk => ⟨?_, ?_⟩,
    fun hk => ⟨?_, ?_⟩, rfl, rfl, rfl, rfl, rfl, rfl⟩
  · rw [ackEq_eq_true_iff, rxBytes, Memory.bytes_eq_iff]
  · rw [ackEq_eq_false_iff, rxBytes, h0]
    exact (templateOf_ne_nil hT).symm
  · exact (isSome_templateOf _ k).mpr hk
  · exact decode_encode (i := .ackChk k) (decide_eq_true hk)
  · have hnone : templateOf Config.params k = none := by
      rw [← Option.not_isSome_iff_eq_none, isSome_templateOf]
      omega
    exact exec_ackChk_none hnone hb
  · exact decode_encode_ackChk_illegal k (decide_eq_false (by omega))

end Sys2Proof.Machine
end

section
/-! SUPPORT. The session sequencer up to the first transport write (R260 to R266): what `NOP`, `SESS.NEW` and `SEND` do to
an idle block, the errors of the transport (R300, R305), and which events move a running `SEND` (R271). -/

namespace Sys2Proof.Machine

/-! ### `NOP` and `SESS.NEW` (R261, R262) -/

/-- Settles O15: `finish` on an idle block. -/
theorem nopWritesOnlyTheCode : Obligations.NopWritesOnlyTheCode :=
  ⟨decode_encode (i := .nop) rfl, fun _ hb => congrArg _ (finish_idle hb .ok)⟩

/-- A newly constructed context leaves the position as it was, so `finish` writes `CODE` alone. -/
theorem exec_sessNew {s : State} (hb : busy s = false) (p : Protocol) :
    exec (.sessNew p) s = .next { newSession p s with code := .ok } := by
  have hidle : busy (newSession p s) = false := by cases p <;> exact hb
  exact congrArg _ (finish_idle hidle .ok)

/-- Settles O16: the context of each protocol, then `finish` on an idle block. -/
theorem sessNewConstructsOneContext : Obligations.SessNewConstructsOneContext := by
  refine ⟨⟨?_, ?_, ?_, ?_⟩, fun s hb => ⟨?_, ?_, ?_, ?_⟩⟩
  · exact decode_encode (i := .sessNew .ndtp) rfl
  · exact decode_encode (i := .sessNew .egts) rfl
  · exact decode_encode (i := .sessNew .ntc) rfl
  · exact decode_encode (i := .sessNew .wln) rfl
  all_goals exact exec_sessNew hb _

/-! ### The command step of `SEND` (R260, R263 to R266) -/

/-- The range check of `SEND p` (R130): the device id counts only where a Navtelecom handshake is due. -/
def sendInRange : Protocol → State → Bool
  | .ntc, s => coordsOk s && (s.ntcAuth || devid15Ok s)
  | .ndtp, s | .egts, s | .wln, s => coordsOk s

/-- The first frame of `SEND p`: a handshake frame where the session has had none. -/
def firstLeg : Protocol → State → Leg
  | .ndtp, s => if s.ndtpPid = 0 then .ndtpAuth else .ndtpNav
  | .egts, _ => .egts
  | .ntc, s => if s.ntcAuth then .ntcData else .ntcAuth
  | .wln, s => if s.wlnAuth then .wlnData else .wlnAuth

section FirstLeg

variable {s : State}

theorem firstLeg_ndtp_handshake (h : s.ndtpPid = 0) : firstLeg .ndtp s = .ndtpAuth := if_pos h
theorem firstLeg_ndtp_data (h : s.ndtpPid ≠ 0) : firstLeg .ndtp s = .ndtpNav := if_neg h
theorem firstLeg_ntc_handshake (h : s.ntcAuth = false) : firstLeg .ntc s = .ntcAuth := by simp [firstLeg, h]
theorem firstLeg_ntc_data (h : s.ntcAuth = true) : firstLeg .ntc s = .ntcData := if_pos h
theorem firstLeg_wln_handshake (h : s.wlnAuth = false) : firstLeg .wln s = .wlnAuth := by simp [firstLeg, h]
theorem firstLeg_wln_data (h : s.wlnAuth = true) : firstLeg .wln s = .wlnData := if_pos h

end FirstLeg

/-- The prologue leaves everything that a range check reads. -/
theorem legInRange_prologue (leg : Leg) (s : State) : legInRange leg (prologue s) = legInRange leg s := by
  cases leg <;> rfl

/-- The prologue leaves everything that a frame is built from. -/
theorem legFrame_prologue (leg : Leg) (s : State) : legFrame leg (prologue s) = legFrame leg s := by
  cases leg <;> rfl

theorem legInRange_firstLeg {p : Protocol} {s : State} (h : sendInRange p s = true) :
    legInRange (firstLeg p s) s = true := by
  cases p with
  | ndtp =>
    rw [firstLeg]
    split_ifs
    exacts [rfl, h]
  | egts => exact h
  | ntc =>
    simp only [sendInRange, Bool.and_eq_true, Bool.or_eq_true] at h
    obtain ⟨hc, hd⟩ := h
    rw [firstLeg]
    split_ifs with ha
    exacts [hc, hd.resolve_left ha]
  | wln =>
    rw [firstLeg]
    split_ifs
    exacts [h, rfl]

/-- Each of R263 to R266 up to its first write is the range check, the prologue and the first frame. -/
theorem exec_send_eq (p : Protocol) (s : State) :
    exec (.send p) s =
      .next (if sendInRange p s then sendLeg (firstLeg p s) (prologue s) else finish .range s) := by
  cases p with
  | egts => rfl
  | ndtp | ntc | wln => exact congrArg _ (ite_congr rfl (fun _ => by rw [firstLeg]; split_ifs <;> rfl) fun _ => rfl)

/-- In range, `SEND p` hands its first frame to the transport. -/
theorem exec_send_inRange {p : Protocol} {s : State} (h : sendInRange p s = true) :
    exec (.send p) s = .next (startLeg (firstLeg p s) (prologue s)) := by
  have hr : legInRange (firstLeg p s) (prologue s) = true := by rw [legInRange_prologue, legInRange_firstLeg h]
  rw [exec_send_eq, if_pos h, sendLeg_inRange hr]

theorem exec_send_outOfRange {p : Protocol} {s : State} (hb : busy s = false) (h : sendInRange p s = false) :
    exec (.send p) s = .next { s with code := .range } := by
  rw [exec_send_eq, h, ← finish_idle hb]
  rfl

/-- Settles O48: each range check fails without the coordinates, Navtelecom's also without the device id. -/
theorem outOfRangeSendWritesOnlyTheCode : Obligations.OutOfRangeSendWritesOnlyTheCode := by
  refine fun s hb => ⟨fun hc p => exec_send_outOfRange hb ?_, fun ha hd => exec_send_outOfRange hb ?_⟩
  · cases p with
    | ndtp | egts | wln => exact hc
    | ntc => simp [sendInRange, hc]
  · simp [sendInRange, ha, hd]

/-- R35, R260: the first frame stands in `FRAME`, the log is cleared, and no other byte has changed. -/
theorem sendStarted_startLeg (leg : Leg) (s : State) :
    sendStarted s (startLeg leg (prologue s)) leg (legFrame leg s) := by
  obtain ⟨h0, h1, -⟩ := windows_apart
  rw [← legFrame_prologue]
  refine ⟨rfl, toNat_frameLen (length_legFrame_le leg _), bufferHolds_fill _ _ _ _, fun i hi => ?_, fun i hi => ?_,
    fun a hf ht0 ht1 => ?_⟩
  · calc (startLeg leg (prologue s)).mem.read (tx0Base + 4 * i)
        = (prologue s).mem.read (tx0Base + 4 * i) := Memory.read_fill_outside _ _ (by omega)
      _ = (s.mem.fill tx0Base Config.frameCap []).read (tx0Base + 4 * i) := Memory.read_fill_outside _ _ (by omega)
      _ = [].getD i 0 := Memory.read_fill_inside _ _ hi
  · calc (startLeg leg (prologue s)).mem.read (tx1Base + 4 * i)
        = (prologue s).mem.read (tx1Base + 4 * i) := Memory.read_fill_outside _ _ (by omega)
      _ = [].getD i 0 := Memory.read_fill_inside _ _ hi
  · calc (startLeg leg (prologue s)).mem.read a
        = (prologue s).mem.read a := Memory.read_fill_outside _ _ hf
      _ = (s.mem.fill tx0Base Config.frameCap []).read a := Memory.read_fill_outside _ _ ht1
      _ = s.mem.read a := Memory.read_fill_outside _ _ ht0

/-- Settles O44: the handshake test is `NDTP_PID` = 0. -/
theorem sendNdtpStarts : Obligations.SendNdtpStarts := by
  intro s _ hc
  refine ⟨_, exec_send_inRange (p := .ndtp) hc, ?_⟩
  by_cases h0 : s.ndtpPid = 0
  · rw [firstLeg_ndtp_handshake h0]
    exact ⟨fun _ => ⟨sendStarted_startLeg .ndtpAuth s, rfl⟩, absurd h0, rfl⟩
  · rw [firstLeg_ndtp_data h0]
    exact ⟨fun h => absurd h h0, fun _ => ⟨sendStarted_startLeg .ndtpNav s, rfl⟩, rfl⟩

/-- Settles O45: the one frame of the call. -/
theorem sendEgtsStarts : Obligations.SendEgtsStarts := fun s _ hc =>
  ⟨_, exec_send_inRange (p := .egts) hc, sendStarted_startLeg .egts s, rfl⟩

/-- Settles O46: with `NTC_AUTH` = 1 the flag stays, with 0 the handshake sets it before the write. -/
theorem sendNavtelecomStarts : Obligations.SendNavtelecomStarts := by
  intro s _ hc hd
  have hr : sendInRange .ntc s = true := by simpa [sendInRange, hc] using hd
  refine ⟨_, exec_send_inRange hr, ?_⟩
  by_cases ha : s.ntcAuth = true
  · rw [firstLeg_ntc_data ha]
    refine ⟨fun h => absurd (h.symm.trans ha) Bool.false_ne_true, fun _ => ⟨sendStarted_startLeg .ntcData s, rfl⟩, ?_⟩
    rw [← ha]
    rfl
  · rw [firstLeg_ntc_handshake (eq_false_of_ne_true ha)]
    exact ⟨fun _ => ⟨sendStarted_startLeg .ntcAuth s, rfl⟩, fun h => absurd h ha, rfl⟩

/-- Settles O47: neither line sets `WLN_AUTH`. -/
theorem sendWialonStarts : Obligations.SendWialonStarts := by
  intro s _ hc
  refine ⟨_, exec_send_inRange (p := .wln) hc, ?_⟩
  by_cases ha : s.wlnAuth = true
  · rw [firstLeg_wln_data ha]
    exact ⟨fun h => absurd (h.symm.trans ha) Bool.false_ne_true, fun _ => sendStarted_startLeg .wlnData s, rfl⟩
  · rw [firstLeg_wln_handshake (eq_false_of_ne_true ha)]
    exact ⟨fun _ => sendStarted_startLeg .wlnAuth s, fun h => absurd h ha, rfl⟩

/-! ### Transport errors (R300, R305) -/

theorem onWriteAnswer_failed {s : State} {leg : Leg} {f : List Byte} {w : WriteAnswer} (hp : s.pos = .awaitWrite leg f)
    (hw : w ≠ .ok f.length) : onWriteAnswer w s = finish .transport s := by
  rcases onWriteAnswer_cases w s with ⟨leg', f', hp', ⟨hok, -⟩ | ⟨-, h⟩⟩ | ⟨hn, -⟩
  · obtain ⟨rfl, rfl⟩ := SendPos.awaitWrite.inj (hp.symm.trans hp')
    exact absurd hok hw
  · exact h
  · exact absurd hp (hn leg f)

theorem onReadAnswer_err {s : State} {leg : Leg} (hp : s.pos = .awaitRead leg) :
    onReadAnswer .err s = finish .transport s := by
  simp [onReadAnswer, hp]

/-- Settles O49: `finish` is the only effect of either error. -/
theorem transportErrorsEndTheSend : Obligations.TransportErrorsEndTheSend := by
  refine fun s leg rest => ⟨fun f w hp he hw => ?_, fun hp he => ?_⟩
  · rw [step_event he]
    exact congrArg _ (onWriteAnswer_failed (s := { s with events := rest }) hp hw)
  · rw [step_event he]
    exact congrArg _ (onReadAnswer_err (s := { s with events := rest }) hp)

/-! ### What moves a running `SEND` (R271, R331) -/

/-- No register write but a `CMD` write touches the result code or the position. -/
theorem writeRegister_code_pos (a : Nat) (v : Word) (s : State) :
    (writeRegister a v s).code = s.code ∧ (writeRegister a v s).pos = s.pos := by
  rcases writeRegister_cases a v s with h | h | h | ⟨-, h | h | h | h | h | ⟨-, h⟩ | ⟨-, h⟩⟩
  all_goals
    rw [h]
    exact ⟨rfl, rfl⟩

/-- R64: a `BUSY` block drops the `CMD` write, the only one that could touch its position. -/
theorem hostWrite_busy_pos {a : PortAddr} {v : Word} {s t : State} (hb : busy s = true)
    (h : hostWrite a v s = .next t) : t.pos = s.pos := by
  rcases hostWrite_cases a v s with h' | ⟨-, -, h'⟩ | ⟨-, hidle, -⟩ | ⟨-, -, h'⟩
  · cases h'.symm.trans h
    rfl
  · cases h'.symm.trans h
    rfl
  · cases hb.symm.trans hidle
  · cases h'.symm.trans h
    exact (writeRegister_code_pos a.toNat v s).2

/-- Settles O14: of the events, a host read changes no position, and a host write none of a `BUSY` block. -/
theorem hostCannotEndASend : Obligations.HostCannotEndASend := by
  intro s t hb h hpos
  rcases step_cases s with ⟨-, hs⟩ | ⟨e, rest, he, hs⟩
  · cases hs.symm.trans h
    exact absurd rfl hpos
  · rw [hs] at h
    cases e with
    | hostRead a =>
      cases h
      exact absurd rfl hpos
    | hostWrite a v => exact absurd (hostWrite_busy_pos (busy_events s rest ▸ hb) h) hpos
    | writeAnswer w => exact .inr (.inl ⟨w, rest, he⟩)
    | readAnswer r => exact .inr (.inr ⟨r, rest, he⟩)
    | powerReset => exact .inl ⟨rest, he⟩

end Sys2Proof.Machine
end

section
/-! SUPPORT. Whole `SEND` calls (R260, R263 to R267): the transfer of one frame, the log after the first and after the
second frame of a call, the calls themselves, and which steps write `E_VALIDATION` (R303). -/

namespace Sys2Proof.Machine

/-! ### The transfer of a frame (R260) -/

/-- The state in which `leg`'s frame, built in `s`, has been written and logged and its response `r` stored. -/
def transferred (leg : Leg) (r : Response) (rest : List Event) (s : State) : State :=
  storeRx r.bytes { issueRead leg (logFrame (legFrame leg s) (startLeg leg s)) with events := rest }

/-- With the write accepted and a response read, the transfer takes two steps, and the response is judged. -/
theorem runSteps_startLeg {s : State} {leg : Leg} {r : Response} {rest : List Event}
    (he : s.events = .writeAnswer (.ok (legFrame leg s).length) :: .readAnswer (.ok r) :: rest) (n : Nat) :
    runSteps (n + 2) (startLeg leg s) = runSteps n (afterRead leg r.bytes (transferred leg r rest s)) :=
  runSteps_xfer (s := startLeg leg s) rfl he n

theorem legFrame_events (leg : Leg) (s : State) (es : List Event) :
    legFrame leg { s with events := es } = legFrame leg s := by
  cases leg <;> rfl

/-- The events that were to come before the transfer play no part in its end. -/
theorem transferred_events (leg : Leg) (r : Response) (rest : List Event) (s : State) (es : List Event) :
    transferred leg r rest { s with events := es } = transferred leg r rest s := by
  have hstart : startLeg leg { s with events := es } = { startLeg leg s with events := es } := by
    simp only [startLeg, legFrame_events]
    rfl
  rw [transferred, hstart, legFrame_events, issueRead_logFrame_events]
  rfl

/-- The transfer of a second frame leaves the log of the first as it was. -/
theorem bytes_tx0_fill_second {n : Nat} (hn : n ≤ Config.frameCap) (m : Memory) (f r : List Byte) :
    (((m.fill frameBase Config.frameCap f).fill tx1Base Config.frameCap f).fill rxBase Config.rxCap r).bytes tx0Base n =
      m.bytes tx0Base n := by
  obtain ⟨h0, h1, h2⟩ := windows_apart
  rw [Memory.bytes_fill_other _ _ (by omega), Memory.bytes_fill_other _ _ (by omega),
    Memory.bytes_fill_other _ _ (by omega)]

/-- A frame logged in `TX1` is still there after the response was stored. -/
theorem bytes_tx1_fill_rx {f : List Byte} (hf : f.length ≤ Config.frameCap) (m : Memory) (r : List Byte) :
    ((m.fill tx1Base Config.frameCap f).fill rxBase Config.rxCap r).bytes tx1Base (BitVec.ofNat 8 f.length).toNat = f := by
  obtain ⟨-, -, h2⟩ := windows_apart
  rw [toNat_frameLen hf, Memory.bytes_fill_other _ _ (by omega), Memory.bytes_fill _ _ _ _ hf]

/-! ### A call up to the response to its first frame -/

/-- The step that takes the `CMD` write of a `SEND` in range. -/
theorem step_send {s : State} {p : Protocol} {v : Word} {rest : List Event} (hb : busy s = false)
    (hr : sendInRange p s = true) (hv : v.setWidth 16 = encode (.send p))
    (he : s.events = .hostWrite 0x000 v :: rest) :
    step s = .next (startLeg (firstLeg p s) (prologue { s with events := rest })) := by
  have hdecode : decode (v.setWidth 16) = .ok (.send p) := hv ▸ decode_encode (i := .send p) rfl
  have hleg : firstLeg p { s with events := rest } = firstLeg p s := by cases p <;> rfl
  have hrange : sendInRange p { s with events := rest } = true := by cases p <;> exact hr
  rw [step_hostWrite_cmd hb he hdecode, exec_send_inRange hrange, hleg]

/-- A call with its first frame accepted and answered. -/
theorem runSteps_send {s : State} {p : Protocol} {v : Word} {leg : Leg} {r : Response} {rest : List Event}
    (hb : busy s = false) (hr : sendInRange p s = true) (hv : v.setWidth 16 = encode (.send p))
    (hleg : firstLeg p s = leg)
    (he : s.events = .hostWrite 0x000 v :: .writeAnswer (.ok (legFrame leg s).length) :: .readAnswer (.ok r) :: rest)
    (n : Nat) :
    runSteps (n + 3) s = runSteps n (afterRead leg r.bytes (transferred leg r rest (prologue s))) := by
  have hanswers := runSteps_startLeg (leg := leg) (r := r) (rest := rest)
    (s := { prologue s with
      events := .writeAnswer (.ok (legFrame leg s).length) :: .readAnswer (.ok r) :: rest })
    (by rw [legFrame_events _ (prologue s), legFrame_prologue]) n
  rw [transferred_events] at hanswers
  rw [runSteps_succ (step_send hb hr hv he), hleg]
  exact hanswers

/-- The first frame of a call is logged in `TX0`. -/
theorem transferred_first (leg : Leg) (r : Response) (rest : List Event) (s : State) :
    transferred leg r rest (prologue s) =
      { startLeg leg (prologue s) with
        mem := ((startLeg leg (prologue s)).mem.fill tx0Base Config.frameCap (legFrame leg s)).fill rxBase Config.rxCap
          r.bytes
        tx0Len := BitVec.ofNat 8 (legFrame leg s).length
        txCount := 1
        rxLen := BitVec.ofNat Config.rxLenBits r.bytes.length
        pos := .awaitRead leg
        events := rest } := by
  rw [transferred, logFrame_first (s := startLeg leg (prologue s)) _ rfl, legFrame_prologue]
  rfl

/-- The log of a call with one frame written: `TX0` holds it, and nothing else is logged. -/
theorem log_of_one_frame (leg : Leg) (r : Response) (rest : List Event) (s : State) :
    let t := transferred leg r rest (prologue s)
    t.txCount = 1 ∧ t.mem.bytes tx0Base t.tx0Len.toNat = legFrame leg s ∧ t.tx1Len = 0 := by
  rw [transferred_first]
  exact ⟨rfl, bytes_tx0_fill_rx (length_legFrame_le leg s) _ _, rfl⟩

/-! ### A call with a handshake -/

/-- The state in which a call whose handshake frame was `leg`'s goes on with its data frame. -/
def handshaken (leg : Leg) (r : Response) (rest : List Event) (s : State) : State :=
  noteResponse leg r.bytes (transferred leg r rest (prologue s))

/-- The second frame of a call is logged in `TX1`. -/
theorem transferred_second (data : Leg) (r' : Response) (rest : List Event) (leg : Leg) (r : Response) (es : List Event)
    (s : State) :
    transferred data r' rest (handshaken leg r es s) =
      { startLeg data (handshaken leg r es s) with
        mem := ((startLeg data (handshaken leg r es s)).mem.fill tx1Base Config.frameCap
          (legFrame data (handshaken leg r es s))).fill rxBase Config.rxCap r'.bytes
        tx1Len := BitVec.ofNat 8 (legFrame data (handshaken leg r es s)).length
        txCount := 2
        rxLen := BitVec.ofNat Config.rxLenBits r'.bytes.length
        pos := .awaitRead data
        events := rest } := by
  have hcount : (startLeg data (handshaken leg r es s)).txCount = 1 := (log_of_one_frame leg r es s).1
  rw [transferred, logFrame_second _ (by rw [hcount]; decide), hcount]
  rfl

/-- The log of a call with both frames written: `TX0` holds the first and `TX1` the second. -/
theorem log_of_two_frames (leg data : Leg) (r r' : Response) (es rest : List Event) (s : State) :
    let t := transferred data r' rest (handshaken leg r es s)
    t.txCount = 2 ∧ t.mem.bytes tx0Base t.tx0Len.toNat = legFrame leg s ∧
      t.mem.bytes tx1Base t.tx1Len.toNat = legFrame data (handshaken leg r es s) := by
  obtain ⟨-, htx0, -⟩ := log_of_one_frame leg r es s
  have hlen : (handshaken leg r es s).tx0Len.toNat ≤ Config.frameCap := by
    rw [handshaken, transferred_first]
    exact (toNat_frameLen (length_legFrame_le leg s)).trans_le (length_legFrame_le leg s)
  rw [transferred_second]
  exact ⟨rfl, (bytes_tx0_fill_second hlen _ _ _).trans htx0, bytes_tx1_fill_rx (length_legFrame_le data _) _ _⟩

/-- A call with its handshake accepted, and both frames written and answered. -/
theorem runSteps_send_handshake {s : State} {p : Protocol} {v : Word} {leg data : Leg} {r r' : Response}
    {es rest : List Event} (hb : busy s = false) (hr : sendInRange p s = true) (hc : coordsOk s = true)
    (hv : v.setWidth 16 = encode (.send p)) (hleg : firstLeg p s = leg) (hgo : goOn leg = sendLeg data)
    (hdata : isAuthLeg data = false) (hok : isNdtpLeg leg = true ∨ r.bytes = legTemplate Config.params leg)
    (he : s.events = .hostWrite 0x000 v :: .writeAnswer (.ok (legFrame leg s).length) :: .readAnswer (.ok r) :: es)
    (hes : es = .writeAnswer (.ok (legFrame data (handshaken leg r es s)).length) :: .readAnswer (.ok r') :: rest)
    (n : Nat) :
    runSteps (n + 5) s = runSteps n (afterRead data r'.bytes (transferred data r' rest (handshaken leg r es s))) := by
  have hrange : coordsOk (transferred leg r es (prologue s)) = true := by
    rw [transferred_first]
    exact hc
  have hevents : (handshaken leg r es s).events = es := rfl
  rw [runSteps_send hb hr hv hleg he (n + 2), afterRead_handshake hgo hdata hok hrange]
  exact runSteps_startLeg (hevents.trans hes) n

/-! ### Wialon (R266, R267) -/

theorem legFrame_wlnData_handshaken (r : Response) (es : List Event) (s : State) :
    legFrame .wlnData (handshaken .wlnAuth r es s) = wlnDataLine s := by
  rw [handshaken, transferred_first]
  rfl

/-- Settles O53: the auth line, then after `WLN_AUTH_OK` the data line, whose response alone decides the code. -/
theorem wialonSendFromStartToFinish : Obligations.WialonSendFromStartToFinish := by
  intro s v r1 hb hc ha hv
  have hleg := firstLeg_wln_handshake ha
  refine ⟨fun r2 rest hok he => ?_, fun rest hno he => ?_⟩
  · obtain ⟨es, hes⟩ : ∃ es, es = .writeAnswer (.ok (wlnDataLine s).length) :: .readAnswer (.ok r2) :: rest := ⟨_, rfl⟩
    rw [← hes] at he
    rw [← legFrame_wlnData_handshaken r1 es] at hes ⊢
    have hrun := runSteps_send_handshake (p := .wln) hb hc hc hv hleg rfl rfl (.inr hok) he hes 0
    rw [afterRead_data rfl rfl] at hrun
    obtain ⟨hcount, htx0, htx1⟩ := log_of_two_frames .wlnAuth .wlnData r1 r2 es rest s
    refine ⟨_, hrun, rfl, rfl, ?_, hcount, rfl, htx0, htx1⟩
    rw [transferred_second, handshaken, noteResponse_wlnAuth ((ackEq_eq_true_iff _ _).mpr hok)]
    rfl
  · have hrun := runSteps_send (p := .wln) hb hc hv hleg he 0
    rw [afterRead_refused rfl hno] at hrun
    obtain ⟨hcount, htx0, htx1⟩ := log_of_one_frame .wlnAuth r1 rest s
    refine ⟨_, hrun, rfl, rfl, ?_, hcount, rfl, htx0, htx1⟩
    rw [transferred_first]
    exact ha

/-! ### Navtelecom (R265, R267) -/

/-- Settles O54: the flag that the failed handshake left set makes the next call start with its data frame. -/
theorem failedNavtelecomHandshakeAuthenticates : Obligations.FailedNavtelecomHandshakeAuthenticates := by
  intro s v v' r1 rest hb hc hd ha hv hv' hno he
  have hr : sendInRange .ntc s = true := by simp [sendInRange, hc, hd]
  have hrun := runSteps_send hb hr hv (firstLeg_ntc_handshake ha) he
  rw [afterRead_refused rfl hno] at hrun
  obtain ⟨hcount, htx0, -⟩ := log_of_one_frame .ntcAuth r1 (.hostWrite 0x000 v' :: rest) s
  rw [transferred_first] at hrun hcount htx0
  refine ⟨⟨_, hrun 0, rfl, rfl, hcount, rfl, rfl, htx0⟩, ?_⟩
  refine ⟨_, (hrun 1).trans (runSteps_succ (step_send (p := .ntc) (rest := rest) ?_ ?_ hv' ?_) 0), ?_⟩
  · rfl
  · exact Bool.and_eq_true_iff.mpr ⟨hc, rfl⟩
  · rfl
  · rw [firstLeg_ntc_data rfl]
    exact ⟨rfl, rfl, rfl, rfl⟩

/-! ### Which steps write `E_VALIDATION` (R303) -/

/-- A frame that is due is handed to the transport, or ends the `SEND` with `E_RANGE`. -/
theorem sendLeg_validation {leg : Leg} {s : State} (h : (sendLeg leg s).code = .validation) : s.code = .validation := by
  obtain ⟨-, -, hcode | hcode⟩ := sendLeg_status leg s
  · exact hcode.symm.trans h
  · cases hcode.symm.trans h

theorem exec_packOf_validation {leg : Leg} {s t : State} (h : exec (packOf leg) s = .next t) : t.code ≠ .validation := by
  cases (exec_packOf leg s).symm.trans h
  split <;> nofun

/-- No command ends with `E_VALIDATION`: the responses of a `SEND` are still to come. -/
theorem exec_validation {i : Instr} {s t : State} (h : exec i s = .next t) (ht : t.code = .validation) :
    s.code = .validation := by
  cases i with
  | nop | sessNew | crc8Init | crc8Upd | crc16cInit | crc16cUpd | crc16mInit | crc16mUpd | xorInit | xorUpd =>
    cases h
    cases ht
  | send p =>
    cases (exec_send_eq p s).symm.trans h
    split at ht
    · exact sendLeg_validation (s := prologue s) ht
    · cases ht
  | packNdtpa => exact absurd ht (exec_packOf_validation (leg := .ndtpAuth) h)
  | packNdtpn => exact absurd ht (exec_packOf_validation (leg := .ndtpNav) h)
  | packEgts => exact absurd ht (exec_packOf_validation (leg := .egts) h)
  | packNtca => exact absurd ht (exec_packOf_validation (leg := .ntcAuth) h)
  | packNtcd => exact absurd ht (exec_packOf_validation (leg := .ntcData) h)
  | packWlna => exact absurd ht (exec_packOf_validation (leg := .wlnAuth) h)
  | packWlnd => exact absurd ht (exec_packOf_validation (leg := .wlnData) h)
  | ackChk k =>
    rw [exec, execAckChk] at h
    split at h
    all_goals
      cases h
      cases ht

theorem hostWrite_validation {a : PortAddr} {v : Word} {s t : State} (h : hostWrite a v s = .next t)
    (ht : t.code = .validation) : s.code = .validation := by
  rcases hostWrite_cases a v s with h' | ⟨-, -, h'⟩ | ⟨-, -, h'⟩ | ⟨-, -, h'⟩
  · cases h'.symm.trans h
    exact ht
  · cases h'.symm.trans h
    exact ht
  · rcases runWord_cases (v.setWidth 16) s with ⟨i, -, hw⟩ | ⟨e, -, hw⟩
    · exact exec_validation ((h'.trans hw).symm.trans h) ht
    · cases (h'.trans hw).symm.trans h
      cases ht
  · cases h'.symm.trans h
    exact (writeRegister_code_pos a.toNat v s).1.symm.trans ht

/-- No response to a frame of NDTP is fatal. -/
theorem afterRead_ndtp_validation {leg : Leg} {r : List Byte} {s : State} (hn : isNdtpLeg leg = true)
    (h : (afterRead leg r s).code = .validation) : s.code = .validation := by
  rw [afterRead_accepted (.inl hn)] at h
  cases leg with
  | ndtpAuth => exact sendLeg_validation (s := noteResponse .ndtpAuth r s) h
  | ndtpNav => cases h
  | egts | ntcAuth | ntcData | wlnAuth | wlnData => cases hn

theorem onWriteAnswer_validation {w : WriteAnswer} {s : State} (h : (onWriteAnswer w s).code = .validation) :
    s.code = .validation := by
  rcases onWriteAnswer_cases w s with ⟨leg, f, -, ⟨-, hw⟩ | ⟨-, hw⟩⟩ | ⟨-, hw⟩
  · rwa [hw, issueRead_code, logFrame_code] at h
  · rw [hw] at h
    cases h
  · rwa [hw] at h

/-- A read answer that makes the code `E_VALIDATION` is the response to a frame of another protocol than NDTP. -/
theorem onReadAnswer_validation {a : ReadAnswer} {s : State} (h : (onReadAnswer a s).code = .validation) :
    s.code = .validation ∨ ∃ leg r, s.pos = .awaitRead leg ∧ isNdtpLeg leg = false ∧ a = .ok r := by
  rcases onReadAnswer_cases a s with ⟨leg, hp, ⟨r, ha, hr⟩ | ⟨-, hr⟩⟩ | ⟨-, hr⟩
  · rw [hr] at h
    cases hn : isNdtpLeg leg with
    | true => exact .inl (afterRead_ndtp_validation (s := storeRx r.bytes s) hn h)
    | false => exact .inr ⟨leg, r, hp, hn, ha⟩
  · rw [hr] at h
    cases h
  · exact .inl (hr ▸ h)

/-- R303 by the event delivered: of the host's acts none, of the transport's answers a response outside NDTP alone. -/
theorem deliver_validation {e : Event} {s t : State} (h : deliver e s = .next t) (ht : t.code = .validation) :
    s.code = .validation ∨
      ∃ leg r, s.pos = .awaitRead leg ∧ isNdtpLeg leg = false ∧ e = .readAnswer (.ok r) := by
  cases e with
  | hostWrite a v => exact .inl (hostWrite_validation h ht)
  | hostRead a =>
    cases h
    exact .inl ht
  | writeAnswer w =>
    cases h
    exact .inl (onWriteAnswer_validation ht)
  | readAnswer a =>
    cases h
    exact (onReadAnswer_validation ht).imp_right fun ⟨leg, r, hp, hn, ha⟩ => ⟨leg, r, hp, hn, congrArg _ ha⟩
  | powerReset =>
    cases h
    cases ht

theorem step_validation {s t : State} (h : step s = .next t) (ht : t.code = .validation) :
    s.code = .validation ∨
      ∃ leg r rest, s.pos = .awaitRead leg ∧ isNdtpLeg leg = false ∧ s.events = .readAnswer (.ok r) :: rest := by
  rcases step_cases s with ⟨-, hs⟩ | ⟨e, rest, he, hs⟩
  · cases hs.symm.trans h
    exact .inl ht
  · rcases deliver_validation (hs.symm.trans h) ht with hcode | ⟨leg, r, hp, hn, rfl⟩
    · exact .inl hcode
    · exact .inr ⟨leg, r, rest, hp, hn, he⟩

/-! ### NDTP (R263, R267) -/

theorem legFrame_ndtpNav_handshaken (r : Response) (es : List Event) {s : State} (h0 : s.ndtpPid = 0) :
    legFrame .ndtpNav (handshaken .ndtpAuth r es s) = ndtpNavFrame Config.params { s with ndtpPid := 1 } := by
  have hpid : (1 : Half) = s.ndtpPid + 1 := by rw [h0]; rfl
  rw [handshaken, transferred_first, hpid]
  rfl

/-- Settles O55: the rule over every step, the call with a handshake, and the call without. -/
theorem ndtpSendNeverFailsValidation : Obligations.NdtpSendNeverFailsValidation := by
  refine ⟨fun s t => step_validation, fun s v r1 r2 rest hb hc h0 hv he => ?_, fun s v r rest hb hc h0 hv he => ?_⟩
  · obtain ⟨es, hes⟩ : ∃ es, es = .writeAnswer (.ok 53) :: .readAnswer (.ok r2) :: rest := ⟨_, rfl⟩
    have hnav := legFrame_ndtpNav_handshaken r1 es h0
    rw [← hes, ← length_ndtpAuthFrame Config.params s] at he
    rw [← length_ndtpNavFrame Config.params { s with ndtpPid := 1 }, ← hnav] at hes
    have hrun := runSteps_send_handshake (p := .ndtp) (data := .ndtpNav) hb hc hc hv (firstLeg_ndtp_handshake h0) rfl
      rfl (.inl rfl) he hes 0
    rw [afterRead_accepted (.inl rfl)] at hrun
    obtain ⟨hcount, htx0, htx1⟩ := log_of_two_frames .ndtpAuth .ndtpNav r1 r2 es rest s
    have hdiagAuth := noteResponse_diagAuth_iff r1.bytes (transferred .ndtpAuth r1 es (prologue s))
    have hdiagNav := noteResponse_diagNav_iff r2.bytes (transferred .ndtpNav r2 rest (handshaken .ndtpAuth r1 es s))
    rw [hnav] at htx1
    rw [transferred_second] at hrun hcount htx0 htx1 hdiagNav
    rw [handshaken, transferred_first] at hrun hcount htx0 htx1 hdiagNav
    rw [transferred_first] at hdiagAuth
    exact ⟨_, hrun, rfl, rfl, rfl, hcount, (congrArg (· + 1 + 1) h0).trans rfl, rfl,
      hdiagAuth.trans (or_iff_right nofun), hdiagNav.trans (or_iff_right nofun), htx0, htx1⟩
  · rw [← length_ndtpNavFrame Config.params s] at he
    have hrun := runSteps_send (p := .ndtp) hb hc hv (firstLeg_ndtp_data h0) he 0
    rw [afterRead_accepted (.inl rfl)] at hrun
    obtain ⟨hcount, htx0, htx1⟩ := log_of_one_frame .ndtpNav r rest s
    have hdiagNav := noteResponse_diagNav_iff r.bytes (transferred .ndtpNav r rest (prologue s))
    rw [transferred_first] at hrun hcount htx0 htx1 hdiagNav
    exact ⟨_, hrun, rfl, rfl, rfl, hcount, rfl, rfl, rfl, hdiagNav.trans (or_iff_right nofun), htx0, htx1⟩

end Sys2Proof.Machine
end

section
/-! SUPPORT. What every step has in common (R307, R308, R330, R331): it answers a next state, and of the events it takes
the first one alone; a power-on reset is no exception, and its state meets the invariants. -/

namespace Sys2Proof.Machine

/-! ### Only the step itself takes an event -/

theorem newSession_events (p : Protocol) (s : State) : (newSession p s).events = s.events := by
  cases p <;> rfl

theorem CommandEffect.events {s t : State} {i : Instr} (h : CommandEffect s i t) : t.events = s.events := by
  cases h with
  | sessNew p => exact newSession_events p s
  | _ => rfl

theorem ResponseEffect.events {s t : State} {leg : Leg} {r : List Byte} (h : ResponseEffect s leg r t) :
    t.events = s.events := by
  cases h with
  | ended | continued => rfl

theorem EventEffect.events {s t : State} {e : Event} (h : EventEffect s e t) : t.events = s.events := by
  cases h with
  | command v i hb hi hc => exact hc.events
  | written leg f hp => exact logFrame_events f s
  | response leg r hp hr => exact hr.events
  | _ => rfl

/-! ### The statements of the step and of the reset -/

/-- Settles O5: every event has an effect, and none of the effects takes a further event. -/
theorem everyStepAnswersAState : Obligations.EveryStepAnswersAState := by
  intro s
  rcases step_cases s with ⟨he, hs⟩ | ⟨e, rest, he, hs⟩
  · exact ⟨s, hs, by rw [he, List.tail_nil], fun _ => rfl⟩
  · obtain ⟨t, ht, heff⟩ := deliver_effect e { s with events := rest }
    exact ⟨t, hs.trans ht, by rw [heff.events, he, List.tail_cons], fun h => absurd (he.symm.trans h) nofun⟩

/-- Settles O13: of the state before it the reset keeps the later events alone. -/
theorem powerResetFromAnyState : Obligations.PowerResetFromAnyState :=
  fun _ _ he => step_event he

/-- Settles O60: no byte is listed, no buffer is in use, and the block is idle with an empty log. -/
theorem resetMeetsTheInvariants : Obligations.ResetMeetsTheInvariants :=
  ⟨canonicalMem_nil, (buffersFilled_iff _).mpr ⟨framesFilled_powerReset State.reset, nofun⟩,
    consistent_of_idle rfl (Nat.zero_le _)⟩

end Sys2Proof.Machine
end
